-- ==== Sys2Proof/Word.lean ====
section
/-! DEFINITION. The word types. A data word has a width that is a parameter of the spec (P_W, H_W, H_AW, A_W:
spec/00_scope.md R7), so the model holds it as the natural number it denotes unsigned, `u(v)` of R13; that it lies below 2 to its
width is the invariant of Sys2Proof/Safety.lean (log 10). Words of a width the spec fixes are bit vectors. -/

namespace Sys2Proof

/-- One order: a 24-bit word of a program store (spec/30_encoding.md R100). -/
abbrev Order := BitVec 24

/-- A 13-bit register or address: Poseidon N, L, lambda and pc, Argus modifiers, link and pc
(spec/10_state.md R21 to R23, R27, R55, R56, R58). -/
abbrev Addr13 := BitVec 13

/-- A 5-bit address field A, B or C of a Poseidon or Hermes order (spec/30_encoding.md R101, R103). -/
abbrev Field5 := BitVec 5

end Sys2Proof
end

