-- ==== Sys2Proof/Config.lean ====
section
/-! DEFINITION. The configuration of a run (the parameters of spec/00_scope.md R7) and the free values, opaque constants
that nothing in Lean can evaluate (spec/00_scope.md R17, spec/70_reset_and_hazards.md R440). -/

namespace Sys2Proof

/-- The three machines of the spec (spec/00_scope.md R19); the Apollo has none (spec/43_apollo.md R261). -/
inductive MachineId where
  | poseidon
  | hermes
  | argus
deriving DecidableEq, Repr

/-- The four families of the document, in its order (spec/00_scope.md R1). -/
inductive Family where
  | poseidon
  | hermes
  | apollo
  | argus
deriving DecidableEq, Repr

/-- The machine of a family; the Apollo has none, and nothing is carried over to it (spec/00_scope.md R19, spec/43_apollo.md R261). -/
def Family.machine : Family → Option MachineId
  | .poseidon => some .poseidon
  | .hermes => some .hermes
  | .apollo => none
  | .argus => some .argus

/-- How a short field is widened: H_C_EXT, H_AOFF_EXT, A_CONST_EXT (spec/00_scope.md R7). -/
inductive Extension where
  | zero
  | sign
deriving DecidableEq, Repr

/-- H_REL_BASE: the order from whose address a relative jump counts (spec/42_hermes_f0.md R202). -/
inductive RelativeBase where
  | self
  | next
deriving DecidableEq, Repr

/-- H_OVERFLOW: what an addition does whose true sum does not fit (spec/42_hermes_f0.md R201). -/
inductive HermesOverflow where
  | refuse
  | wrap
deriving DecidableEq, Repr

/-- A_LONG_ORDER: which of a pair of Argus words is the more significant, the first named (N-1, P1, Q1, P) or the
second (spec/10_state.md R51, R52, spec/20_memory.md R81). -/
inductive LongOrder where
  | firstNamed
  | secondNamed
deriving DecidableEq, Repr

/-- A_MUL: the product function of Argus 20, the exact signed integer product or one that the configuration supplies as
`Config.product` (spec/45_argus_muldiv.md R311). -/
inductive ProductReading where
  | integer
  | supplied
deriving DecidableEq, Repr

/-- A place where A_IOREG may put Register 20 or Register 22 (spec/10_state.md R59): a short accumulator, a short address of
the store, or a cell of its own. -/
inductive IoPlace where
  | accumulator (i : Fin 6)
  | shortAddress (e : Addr13)
  | ownCell
deriving DecidableEq, Repr

/-- A_IOREG: the location standing for Register 20 and the one standing for Register 22 (spec/46_argus_input.md R330). -/
structure IoRegisters where
  reg20 : IoPlace
  reg22 : IoPlace
deriving DecidableEq, Repr

/-- A_MODMAP: which of the three dedicated modifier registers (index 0 to 2 for `A.mod[1]` to `A.mod[3]`) each value of M
identifies; `none` is no register (spec/10_state.md R55). -/
structure ModifierMap where
  m0 : Option (Fin 3)
  m1 : Option (Fin 3)
  m2 : Option (Fin 3)
  m3 : Option (Fin 3)
deriving DecidableEq, Repr

/-- The default of A_MODMAP: M = 0 none, M = 1, 2, 3 the three registers (spec/10_state.md R55). -/
def ModifierMap.standard : ModifierMap := ⟨none, some 0, some 1, some 2⟩

/-- The configuration: one field per parameter of spec/00_scope.md R7, in its order. A step never writes it. -/
structure Config where
  /-- P_W, Poseidon data word width. -/
  pW : Nat
  /-- P_PLAIN as a set of addresses: bit k is set when address k is an ordinary cell. -/
  pPlain : BitVec 32
  /-- P_FPS_SIZE, words in the fast program store. -/
  pFpsSize : Nat
  /-- P_DS_SIZE, words in the data store. -/
  pDsSize : Nat
  /-- P_NQ, number of Q stats. -/
  pNQ : Nat
  /-- P_DIGIT0_LSB, whether digit 0 is the least significant bit. -/
  pDigit0Lsb : Bool
  /-- P_ENTRY. -/
  pEntry : Addr13
  /-- H_W, Hermes data word width. -/
  hW : Nat
  /-- H_AW, Hermes address width. -/
  hAW : Nat
  /-- H_STORE_SIZE, words in the V store. -/
  hStoreSize : Nat
  /-- H_C_EXT. -/
  hCExt : Extension
  /-- H_AOFF_EXT. -/
  hAoffExt : Extension
  /-- H_REL_BASE. -/
  hRelBase : RelativeBase
  /-- H_OVERFLOW. -/
  hOverflow : HermesOverflow
  /-- H_ENTRY. -/
  hEntry : Nat
  /-- A_W, Argus short word width. -/
  aW : Nat
  /-- A_STORE_SIZE, short words in the Argus store. -/
  aStoreSize : Nat
  /-- A_MODMAP. -/
  aModMap : ModifierMap
  /-- A_CONST_EXT. -/
  aConstExt : Extension
  /-- A_LONG_ORDER. -/
  aLongOrder : LongOrder
  /-- A_MUL. -/
  aMul : ProductReading
  /-- A_MULROUND: whether the configuration supplies it (as `Config.roundedProduct`). -/
  aMulRound : Bool
  /-- A_DIV: whether the configuration supplies it (as `Config.quotient`, `Config.roundedQuotient`). -/
  aDiv : Bool
  /-- A_IOREG. -/
  aIoReg : Option IoRegisters
  /-- A_INT: the entry address, where interruptions exist (the enabling predicate is `Config.interruptEnabled`). -/
  aInt : Option Addr13
  /-- A_ENTRY. -/
  aEntry : Addr13
deriving DecidableEq, Repr

/-- The ranges that spec/00_scope.md R7 gives the parameters: P_FPS_SIZE, P_DS_SIZE and A_STORE_SIZE at most 8192, P_NQ at least
11, H_AW at least 5, H_STORE_SIZE at least 32 and at most 2^H_AW. A word holds at least the five digits of a tape
character (R166) or a 5-bit literal (R104), and an Argus word at least one bit; an interruption enters within the 13-bit program store. -/
abbrev Config.wf (c : Config) : Prop :=
  5 ≤ c.pW ∧ c.pFpsSize ≤ 8192 ∧ c.pDsSize ≤ 8192 ∧ 11 ≤ c.pNQ ∧
  5 ≤ c.hW ∧ 5 ≤ c.hAW ∧ 32 ≤ c.hStoreSize ∧ c.hStoreSize ≤ 2 ^ c.hAW ∧ c.hEntry < 2 ^ c.hAW ∧
  1 ≤ c.aW ∧ c.aStoreSize ≤ 8192

/-- The configuration of `State.reset`: every default of spec/00_scope.md R7, and for each OPEN parameter a value that is a
DESIGN CHOICE (log 2): the largest sizes the spec allows, every address but 2 and 3 plain, H_AW 13, A_W 24, eleven Q stats, entry
addresses 0. -/
def Config.standard : Config where
  pW := 24
  pPlain := 0xFFFFFFF3#32
  pFpsSize := 8192
  pDsSize := 8192
  pNQ := 11
  pDigit0Lsb := true
  pEntry := 0
  hW := 24
  hAW := 13
  hStoreSize := 8192
  hCExt := .zero
  hAoffExt := .zero
  hRelBase := .self
  hOverflow := .refuse
  hEntry := 0
  aW := 24
  aStoreSize := 8192
  aModMap := .standard
  aConstExt := .zero
  aLongOrder := .firstNamed
  aMul := .integer
  aMulRound := false
  aDiv := false
  aIoReg := none
  aInt := none
  aEntry := 0

/-- The family whose machine `State.reset` runs and `decodeTableWord` decodes for. DESIGN CHOICE (log 1): the spec gives three
independent machines and names none as the one that runs. -/
def Config.resetMachine : Family := .poseidon

/-! ### Free values (log 7)

The first argument of a draw is the length of the machine's event history, the counter that the step reads and advances. -/

/-- The drawn P.CR.neg after a logical order (spec/40_poseidon_group0.md R142). -/
opaque Config.drawnCrNeg : Nat → Bool

/-- The drawn P.CR.zero after a logical order (spec/40_poseidon_group0.md R142). -/
opaque Config.drawnCrZero : Nat → Bool

/-- The next tape character (spec/40_poseidon_group0.md R163). -/
opaque Config.drawnTapeCharacter : Nat → BitVec 5

/-- The Handswitches, reduced by the reader to P_W bits (spec/40_poseidon_group0.md R164). -/
opaque Config.drawnHandswitches : Nat → Nat

/-- A word of P.FPS that nothing has loaded, read as an operand (spec/70_reset_and_hazards.md R440). -/
opaque Config.drawnFpsWord : Nat → Order

/-- A word of H.V that nothing has written; the second argument is the operand's position in the order
(spec/70_reset_and_hazards.md R440). -/
opaque Config.drawnHermesWord : Nat → Nat → Nat

/-- A word of A.S that nothing has written; the second argument is the operand's position in the order
(spec/70_reset_and_hazards.md R440). -/
opaque Config.drawnArgusWord : Nat → Nat → Nat

/-- Whether the typewriter is busy at a test (spec/48_argus_jump.md R372). -/
opaque Config.drawnTypewriterBusy : Nat → Bool

/-- The input an Argus 30, 31 or 32 delivers (spec/46_argus_input.md R330). -/
opaque Config.drawnInput : Nat → Nat

/-- Whether an enabled interruption is taken (spec/60_exceptions.md R402). -/
opaque Config.drawnInterruption : Nat → Bool

/-- A_MUL where it is supplied: a function of A_W, X, n and x (spec/45_argus_muldiv.md R311). -/
opaque Config.product : Nat → BitVec 3 → Nat → Nat → Nat

/-- A_MULROUND: a function of A_W, X, n and x (spec/45_argus_muldiv.md R312). -/
opaque Config.roundedProduct : Nat → BitVec 3 → Nat → Nat → Nat

/-- A_DIV for function 24: a function of A_W, X, n, x and (pq) (spec/45_argus_muldiv.md R314). -/
opaque Config.quotient : Nat → BitVec 3 → Nat → Nat → Nat → Nat

/-- A_DIV for functions 25 and 26: a function of A_W, X, n, x and (pq) (spec/45_argus_muldiv.md R315, R316). -/
opaque Config.roundedQuotient : Nat → BitVec 3 → Nat → Nat → Nat → Nat

end Sys2Proof
end

