-- ==== Sys2Proof/Syntax.lean ====
section
/-! DEFINITION. The instructions: one constructor for each row of spec/opcode_table.json, in the table's order. The operands are
the fields of the row's format, or the bits it leaves free where the spec assigns no fields (spec/30_encoding.md R101, R103, R105,
R112, R113). Fields that a function does not use are kept, a DESIGN CHOICE (log 23): R115 makes one instruction of all their
values, and the meanings ignore them. -/

namespace Sys2Proof

/-- An order of one of the three machines. -/
inductive Instr where
  /-- P000 (R144): a' = b + c. -/
  | p000 (a b c : Field5)
  /-- P001 (R145): a' = b - c. -/
  | p001 (a b c : Field5)
  /-- P002 (R146): a' = b # c. -/
  | p002 (a b c : Field5)
  /-- P003 (R147): a' = b # NOTc. -/
  | p003 (a b c : Field5)
  /-- P004 (R148): a' = b + c, collate if a field is 3. -/
  | p004 (a b c : Field5)
  /-- P005 (R149): a' = b - c, collate if a field is 3. -/
  | p005 (a b c : Field5)
  /-- P006 (R150): a' = b & c. -/
  | p006 (a b c : Field5)
  /-- P007 (R151): a' = b & NOTc. -/
  | p007 (a b c : Field5)
  /-- P010 (R152): function of W as for V = 0, then count in N (rule R165). -/
  | p010 (a b c : Field5)
  /-- P011 (R152): function of W as for V = 0, then count in N (rule R165). -/
  | p011 (a b c : Field5)
  /-- P012 (R152): function of W as for V = 0, then count in N (rule R165). -/
  | p012 (a b c : Field5)
  /-- P013 (R152): function of W as for V = 0, then count in N (rule R165). -/
  | p013 (a b c : Field5)
  /-- P014 (R152): function of W as for V = 0, then count in N (rule R165). -/
  | p014 (a b c : Field5)
  /-- P015 (R152): function of W as for V = 0, then count in N (rule R165). -/
  | p015 (a b c : Field5)
  /-- P016 (R152): function of W as for V = 0, then count in N (rule R165). -/
  | p016 (a b c : Field5)
  /-- P017 (R152): function of W as for V = 0, then count in N (rule R165). -/
  | p017 (a b c : Field5)
  /-- P020 (R153): function of W as for V = 0, count in N, count and test lambda (rules R165, R167). -/
  | p020 (a b c : Field5)
  /-- P021 (R153): function of W as for V = 0, count in N, count and test lambda (rules R165, R167). -/
  | p021 (a b c : Field5)
  /-- P022 (R153): function of W as for V = 0, count in N, count and test lambda (rules R165, R167). -/
  | p022 (a b c : Field5)
  /-- P023 (R153): function of W as for V = 0, count in N, count and test lambda (rules R165, R167). -/
  | p023 (a b c : Field5)
  /-- P024 (R153): function of W as for V = 0, count in N, count and test lambda (rules R165, R167). -/
  | p024 (a b c : Field5)
  /-- P025 (R153): function of W as for V = 0, count in N, count and test lambda (rules R165, R167). -/
  | p025 (a b c : Field5)
  /-- P026 (R153): function of W as for V = 0, count in N, count and test lambda (rules R165, R167). -/
  | p026 (a b c : Field5)
  /-- P027 (R153): function of W as for V = 0, count in N, count and test lambda (rules R165, R167). -/
  | p027 (a b c : Field5)
  /-- P030 (R154): conditional on C.R.. -/
  | p030 (a b c : Field5)
  /-- P031 (R110): no entry in the source. -/
  | p031 (a b c : Field5)
  /-- P032 (R155): conditional on C.R.. -/
  | p032 (a b c : Field5)
  /-- P033 (R110): no entry in the source. -/
  | p033 (a b c : Field5)
  /-- P034 (R156): conditional on C.R.. -/
  | p034 (a b c : Field5)
  /-- P035 (R110): no entry in the source. -/
  | p035 (a b c : Field5)
  /-- P036 (R157): conditional on C.R.. -/
  | p036 (a b c : Field5)
  /-- P037 (R110): no entry in the source. -/
  | p037 (a b c : Field5)
  /-- P040 (R158): function of W as for V = 0, then return to outer mode. -/
  | p040 (a b c : Field5)
  /-- P041 (R158): function of W as for V = 0, then return to outer mode. -/
  | p041 (a b c : Field5)
  /-- P042 (R158): function of W as for V = 0, then return to outer mode. -/
  | p042 (a b c : Field5)
  /-- P043 (R158): function of W as for V = 0, then return to outer mode. -/
  | p043 (a b c : Field5)
  /-- P044 (R158): function of W as for V = 0, then return to outer mode. -/
  | p044 (a b c : Field5)
  /-- P045 (R158): function of W as for V = 0, then return to outer mode. -/
  | p045 (a b c : Field5)
  /-- P046 (R158): function of W as for V = 0, then return to outer mode. -/
  | p046 (a b c : Field5)
  /-- P047 (R158): function of W as for V = 0, then return to outer mode. -/
  | p047 (a b c : Field5)
  /-- P050 (R159): b or c = 2 reads FPS[N]. -/
  | p050 (a b c : Field5)
  /-- P051 (R159): b or c = 2 reads FPS[N]. -/
  | p051 (a b c : Field5)
  /-- P052 (R159): b or c = 2 reads FPS[N]. -/
  | p052 (a b c : Field5)
  /-- P053 (R159): b or c = 2 reads FPS[N]. -/
  | p053 (a b c : Field5)
  /-- P054 (R159): b or c = 2 reads FPS[N]. -/
  | p054 (a b c : Field5)
  /-- P055 (R159): b or c = 2 reads FPS[N]. -/
  | p055 (a b c : Field5)
  /-- P056 (R159): b or c = 2 reads FPS[N]. -/
  | p056 (a b c : Field5)
  /-- P057 (R159): b or c = 2 reads FPS[N]. -/
  | p057 (a b c : Field5)
  /-- P060 (R160): function of W as for V = 0, count and test lambda (rule R167). -/
  | p060 (a b c : Field5)
  /-- P061 (R160): function of W as for V = 0, count and test lambda (rule R167). -/
  | p061 (a b c : Field5)
  /-- P062 (R160): function of W as for V = 0, count and test lambda (rule R167). -/
  | p062 (a b c : Field5)
  /-- P063 (R160): function of W as for V = 0, count and test lambda (rule R167). -/
  | p063 (a b c : Field5)
  /-- P064 (R160): function of W as for V = 0, count and test lambda (rule R167). -/
  | p064 (a b c : Field5)
  /-- P065 (R160): function of W as for V = 0, count and test lambda (rule R167). -/
  | p065 (a b c : Field5)
  /-- P066 (R160): function of W as for V = 0, count and test lambda (rule R167). -/
  | p066 (a b c : Field5)
  /-- P067 (R160): function of W as for V = 0, count and test lambda (rule R167). -/
  | p067 (a b c : Field5)
  /-- P070 (R161): one of A, B, C must be 3 (rules R162 to R164). -/
  | p070 (a b c : Field5)
  /-- P071 (R161): one of A, B, C must be 3 (rules R162 to R164). -/
  | p071 (a b c : Field5)
  /-- P072 (R161): one of A, B, C must be 3 (rules R162 to R164). -/
  | p072 (a b c : Field5)
  /-- P073 (R161): one of A, B, C must be 3 (rules R162 to R164). -/
  | p073 (a b c : Field5)
  /-- P074 (R161): one of A, B, C must be 3 (rules R162 to R164). -/
  | p074 (a b c : Field5)
  /-- P075 (R161): one of A, B, C must be 3 (rules R162 to R164). -/
  | p075 (a b c : Field5)
  /-- P076 (R161): one of A, B, C must be 3 (rules R162 to R164). -/
  | p076 (a b c : Field5)
  /-- P077 (R161): one of A, B, C must be 3 (rules R162 to R164). -/
  | p077 (a b c : Field5)
  /-- P1xx (R188): Group 1, 'Miscellaneous Arithmetic': 64 function codes described in outline only (rule R181). -/
  | p1xx (rest : BitVec 21)
  /-- P2xx (R188): Group 2, 'Shifts': 64 function codes described in outline only (rule R182). -/
  | p2xx (rest : BitVec 21)
  /-- P3xx (R188): Group 3, 'Stops, etc.': 64 function codes described in outline only (rule R183). -/
  | p3xx (rest : BitVec 21)
  /-- P4xx (R188): Group 4, 'Conditional Jumps': 64 function codes described in outline only (rule R184). -/
  | p4xx (rest : BitVec 21)
  /-- P5xx (R188): Group 5, 'Stat. Operations': 64 function codes described in outline only (rule R185). -/
  | p5xx (rest : BitVec 21)
  /-- P6xx (R188): Group 6, 'Specified Bit Operations': 64 function codes described in outline only (rule R186). -/
  | p6xx (rest : BitVec 21)
  /-- P7xx (R188): Group 7, '13-bit Operations and Unconditional Jumps': 64 function codes described in outline only (rule R187). -/
  | p7xx (rest : BitVec 21)
  /-- H0.00.0 (R210): <- 1, VB + VC > 0. -/
  | h0_00_0 (a b c : Field5)
  /-- H0.01.0 (R211): <- 1, VB + C > 0. -/
  | h0_01_0 (a b c : Field5)
  /-- H0.00.1 (R212): <- 1, VB + VC < 0. -/
  | h0_00_1 (a b c : Field5)
  /-- H0.01.1 (R213): <- 1, VB + C < 0. -/
  | h0_01_1 (a b c : Field5)
  /-- H0.00.2 (R214): <- 2, VB + VC > 0. -/
  | h0_00_2 (a b c : Field5)
  /-- H0.01.2 (R215): <- 2, VB + C > 0. -/
  | h0_01_2 (a b c : Field5)
  /-- H0.00.3 (R216): <- 2, VB + VC < 0. -/
  | h0_00_3 (a b c : Field5)
  /-- H0.01.3 (R217): <- 2, VB + C < 0. -/
  | h0_01_3 (a b c : Field5)
  /-- H0.00.4 (R218): <- 1, VB = VB + VC > 0. -/
  | h0_00_4 (a b c : Field5)
  /-- H0.01.4 (R219): <- 1, VB = VB + C > 0. -/
  | h0_01_4 (a b c : Field5)
  /-- H0.00.5 (R220): <- 1, VB = VB + VC < 0. -/
  | h0_00_5 (a b c : Field5)
  /-- H0.01.5 (R221): <- 1, VB = VB + C < 0. -/
  | h0_01_5 (a b c : Field5)
  /-- H0.00.6 (R222): <- 2, VB = VB + VC > 0. -/
  | h0_00_6 (a b c : Field5)
  /-- H0.01.6 (R223): <- 2, VB = VB + C > 0. -/
  | h0_01_6 (a b c : Field5)
  /-- H0.00.7 (R224): <- 2, VB = VB + VC < 0. -/
  | h0_00_7 (a b c : Field5)
  /-- H0.01.7 (R225): <- 2, VB = VB + C < 0. -/
  | h0_01_7 (a b c : Field5)
  /-- H0.10.0 (R230): VA = VB + VC. -/
  | h0_10_0 (a b c : Field5)
  /-- H0.11.0 (R231): VA = VB + C. -/
  | h0_11_0 (a b c : Field5)
  /-- H0.10.1 (R232): N1 = VA, VN1 = VB + VC. -/
  | h0_10_1 (a b c : Field5)
  /-- H0.11.1 (R233): V[N1 + A] = VB + VC. -/
  | h0_11_1 (a b c : Field5)
  /-- H0.10.2 (R234): N1 = VB, VA = VN1 + VC. -/
  | h0_10_2 (a b c : Field5)
  /-- H0.11.2 (R235): VA = V[N1 = B] + VC. -/
  | h0_11_2 (a b c : Field5)
  /-- H0.10.3 (R236): N1 = VC, VA = VB + VN1. -/
  | h0_10_3 (a b c : Field5)
  /-- H0.11.3 (R237): VA = VB + V[N1 = C]. -/
  | h0_11_3 (a b c : Field5)
  /-- H0.10.4 (R238): WAIT A B C (not described. -/
  | h0_10_4 (a b c : Field5)
  /-- H0.11.4 (R239): blank cell. -/
  | h0_11_4 (a b c : Field5)
  /-- H0.10.5 (R240): blank cell. -/
  | h0_10_5 (a b c : Field5)
  /-- H0.11.5 (R240): blank cell. -/
  | h0_11_5 (a b c : Field5)
  /-- H0.10.6 (R242): VA = VB + VC, N1 + 1. -/
  | h0_10_6 (a b c : Field5)
  /-- H0.11.6 (R243): VA = VB + C, N1 + 1. -/
  | h0_11_6 (a b c : Field5)
  /-- H0.10.7 (R244): VA = VB + VC, N1 - 1. -/
  | h0_10_7 (a b c : Field5)
  /-- H0.11.7 (R245): VA = VB + C, N1 - 1. -/
  | h0_11_7 (a b c : Field5)
  /-- H0.2x.x (R113): F = 0, I = 2: table omitted by the source. -/
  | h0_2x (rest : BitVec 19)
  /-- H0.3x.x (R113): F = 0, I = 3: table omitted by the source. -/
  | h0_3x (rest : BitVec 19)
  /-- H1.xx.x (R113): F = 1: four tables omitted by the source. -/
  | h1xx (rest : BitVec 21)
  /-- H2.xx.x (R113): F = 2: four tables omitted by the source. -/
  | h2xx (rest : BitVec 21)
  /-- H3.xx.x (R113): F = 3: four tables omitted by the source. -/
  | h3xx (rest : BitVec 21)
  /-- H4.xx.x (R113): F = 4: four tables omitted by the source. -/
  | h4xx (rest : BitVec 21)
  /-- H5.xx.x (R113): F = 5: four tables omitted by the source. -/
  | h5xx (rest : BitVec 21)
  /-- H6.xx.x (R113): F = 6: four tables omitted by the source. -/
  | h6xx (rest : BitVec 21)
  /-- H7.xx.x (R113): F = 7: four tables omitted by the source. -/
  | h7xx (rest : BitVec 21)
  /-- A00 (R272): x' = n. -/
  | a00 (n : Addr13) (x : BitVec 3) (m : BitVec 2)
  /-- A01 (R273): x' = x + n. -/
  | a01 (n : Addr13) (x : BitVec 3) (m : BitVec 2)
  /-- A02 (R274): x' = - n. -/
  | a02 (n : Addr13) (x : BitVec 3) (m : BitVec 2)
  /-- A03 (R275): x' = x - n. -/
  | a03 (n : Addr13) (x : BitVec 3) (m : BitVec 2)
  /-- A04 (R276): x' = n - x. -/
  | a04 (n : Addr13) (x : BitVec 3) (m : BitVec 2)
  /-- A05 (R277): x' = x & n. -/
  | a05 (n : Addr13) (x : BitVec 3) (m : BitVec 2)
  /-- A06 (R278): x' = x # n. -/
  | a06 (n : Addr13) (x : BitVec 3) (m : BitVec 2)
  /-- A07 (R279): '-------': no function listed. -/
  | a07 (n : Addr13) (x : BitVec 3) (m : BitVec 2)
  /-- A10 (R280): n' = x. -/
  | a10 (n : Addr13) (x : BitVec 3) (m : BitVec 2)
  /-- A11 (R281): n' = n + x. -/
  | a11 (n : Addr13) (x : BitVec 3) (m : BitVec 2)
  /-- A12 (R282): n' = - x. -/
  | a12 (n : Addr13) (x : BitVec 3) (m : BitVec 2)
  /-- A13 (R283): n' = n - x. -/
  | a13 (n : Addr13) (x : BitVec 3) (m : BitVec 2)
  /-- A14 (R284): n' = x - n. -/
  | a14 (n : Addr13) (x : BitVec 3) (m : BitVec 2)
  /-- A15 (R285): n' = n & x. -/
  | a15 (n : Addr13) (x : BitVec 3) (m : BitVec 2)
  /-- A16 (R286): n' = n # x. -/
  | a16 (n : Addr13) (x : BitVec 3) (m : BitVec 2)
  /-- A17 (R287): '-------': no function listed. -/
  | a17 (n : Addr13) (x : BitVec 3) (m : BitVec 2)
  /-- A20 (R311): p' = n . x (multiplication). -/
  | a20 (n : Addr13) (x : BitVec 3) (m : BitVec 2)
  /-- A21 (R312): p' = n . x (rounded up). -/
  | a21 (n : Addr13) (x : BitVec 3) (m : BitVec 2)
  /-- A22 (R313): '-------': no function listed. -/
  | a22 (n : Addr13) (x : BitVec 3) (m : BitVec 2)
  /-- A23 (R313): '-------': no function listed. -/
  | a23 (n : Addr13) (x : BitVec 3) (m : BitVec 2)
  /-- A24 (R314): Short division. -/
  | a24 (n : Addr13) (x : BitVec 3) (m : BitVec 2)
  /-- A25 (R315): Short division rounded. -/
  | a25 (n : Addr13) (x : BitVec 3) (m : BitVec 2)
  /-- A26 (R316): As 25 but with p2' zero. -/
  | a26 (n : Addr13) (x : BitVec 3) (m : BitVec 2)
  /-- A27 (R317): '-------': no function listed. -/
  | a27 (n : Addr13) (x : BitVec 3) (m : BitVec 2)
  /-- A30 (R331): Select N to Register 20 (Single bit inputs). -/
  | a30 (n : Addr13) (x : BitVec 3) (m : BitVec 2)
  /-- A31 (R332): Select & Translate Digitisers to 20. -/
  | a31 (n : Addr13) (x : BitVec 3) (m : BitVec 2)
  /-- A32 (R333): Select Analogue currents to 22. -/
  | a32 (n : Addr13) (x : BitVec 3) (m : BitVec 2)
  /-- A33 (R334): 'Other types of input if reqd.'. -/
  | a33 (n : Addr13) (x : BitVec 3) (m : BitVec 2)
  /-- A34 (R334): 'Other types of input if reqd.'. -/
  | a34 (n : Addr13) (x : BitVec 3) (m : BitVec 2)
  /-- A35 (R334): 'Other types of input if reqd.'. -/
  | a35 (n : Addr13) (x : BitVec 3) (m : BitVec 2)
  /-- A36 (R334): 'Other types of input if reqd.'. -/
  | a36 (n : Addr13) (x : BitVec 3) (m : BitVec 2)
  /-- A37 (R334): 'Other types of input if reqd.'. -/
  | a37 (n : Addr13) (x : BitVec 3) (m : BitVec 2)
  /-- A40 (R290): x' = N. -/
  | a40 (n : Addr13) (x : BitVec 3) (m : BitVec 2)
  /-- A41 (R291): x' = x + N. -/
  | a41 (n : Addr13) (x : BitVec 3) (m : BitVec 2)
  /-- A42 (R292): x' = - N. -/
  | a42 (n : Addr13) (x : BitVec 3) (m : BitVec 2)
  /-- A43 (R293): x' = x - N. -/
  | a43 (n : Addr13) (x : BitVec 3) (m : BitVec 2)
  /-- A44 (R294): x' = N - x. -/
  | a44 (n : Addr13) (x : BitVec 3) (m : BitVec 2)
  /-- A45 (R295): x' = x & N. -/
  | a45 (n : Addr13) (x : BitVec 3) (m : BitVec 2)
  /-- A46 (R296): x' = x # N. -/
  | a46 (n : Addr13) (x : BitVec 3) (m : BitVec 2)
  /-- A47 (R297): '-------': no function listed. -/
  | a47 (n : Addr13) (x : BitVec 3) (m : BitVec 2)
  /-- A50 (R342): x' = x shifted arithmetically N places. -/
  | a50 (n : Addr13) (x : BitVec 3) (m : BitVec 2)
  /-- A51 (R343): x' = x shifted logically N places. -/
  | a51 (n : Addr13) (x : BitVec 3) (m : BitVec 2)
  /-- A52 (R344): p' = p shifted arithmetically N places if X is 4. -/
  | a52 (n : Addr13) (x : BitVec 3) (m : BitVec 2)
  /-- A53 (R345): Shift p or (pq) logically N places (X is 4 or 7). -/
  | a53 (n : Addr13) (x : BitVec 3) (m : BitVec 2)
  /-- A54 (R346): Normalize p, places to X. -/
  | a54 (n : Addr13) (x : BitVec 3) (m : BitVec 2)
  /-- A55 (R347): Normalize (pq), places to X. -/
  | a55 (n : Addr13) (x : BitVec 3) (m : BitVec 2)
  /-- A56 (R348): '-------': no function listed. -/
  | a56 (n : Addr13) (x : BitVec 3) (m : BitVec 2)
  /-- A57 (R348): '-------': no function listed. -/
  | a57 (n : Addr13) (x : BitVec 3) (m : BitVec 2)
  /-- A60 (R361): Jump to N if x = 0. -/
  | a60 (n : Addr13) (x : BitVec 3) (m : BitVec 2)
  /-- A61 (R362): Jump to N if x not zero. -/
  | a61 (n : Addr13) (x : BitVec 3) (m : BitVec 2)
  /-- A62 (R363): Jump [to N] if x >= 0. -/
  | a62 (n : Addr13) (x : BitVec 3) (m : BitVec 2)
  /-- A63 (R364): Jump to N if x < 0. -/
  | a63 (n : Addr13) (x : BitVec 3) (m : BitVec 2)
  /-- A64 (R365): Jump to N if OVR clear & clear it. -/
  | a64 (n : Addr13) (x : BitVec 3) (m : BitVec 2)
  /-- A65 (R366): Jump to N if OVR set & clear it. -/
  | a65 (n : Addr13) (x : BitVec 3) (m : BitVec 2)
  /-- A66 (R367): x' = x - 2, m' = m + 2, jump to N if x' not zero. -/
  | a66 (n : Addr13) (x : BitVec 3) (m : BitVec 2)
  /-- A67 (R368): x' = x - 1, m' = m + 1, jump to N if x' not zero. -/
  | a67 (n : Addr13) (x : BitVec 3) (m : BitVec 2)
  /-- A70 (R369): Jump to N, store link. -/
  | a70 (n : Addr13) (x : BitVec 3) (m : BitVec 2)
  /-- A71 (R370): Jump to link + 1. -/
  | a71 (n : Addr13) (x : BitVec 3) (m : BitVec 2)
  /-- A72 (R371): Jump to link after interruption. -/
  | a72 (n : Addr13) (x : BitVec 3) (m : BitVec 2)
  /-- A73 (R372): Jump [to N] if typewriter busy. -/
  | a73 (n : Addr13) (x : BitVec 3) (m : BitVec 2)
  /-- A74 (R373): Jump [to N] if typewriter not busy. -/
  | a74 (n : Addr13) (x : BitVec 3) (m : BitVec 2)
  /-- A75 (R374): '-------': no function listed. -/
  | a75 (n : Addr13) (x : BitVec 3) (m : BitVec 2)
  /-- A76 (R374): '-------': no function listed. -/
  | a76 (n : Addr13) (x : BitVec 3) (m : BitVec 2)
  /-- A77 (R375): Stop. -/
  | a77 (n : Addr13) (x : BitVec 3) (m : BitVec 2)
deriving DecidableEq, Repr

/-- The machine whose order it is (spec/00_scope.md R19). -/
def Instr.machine : Instr → MachineId
  | .p000 _ _ _ => .poseidon
  | .p001 _ _ _ => .poseidon
  | .p002 _ _ _ => .poseidon
  | .p003 _ _ _ => .poseidon
  | .p004 _ _ _ => .poseidon
  | .p005 _ _ _ => .poseidon
  | .p006 _ _ _ => .poseidon
  | .p007 _ _ _ => .poseidon
  | .p010 _ _ _ => .poseidon
  | .p011 _ _ _ => .poseidon
  | .p012 _ _ _ => .poseidon
  | .p013 _ _ _ => .poseidon
  | .p014 _ _ _ => .poseidon
  | .p015 _ _ _ => .poseidon
  | .p016 _ _ _ => .poseidon
  | .p017 _ _ _ => .poseidon
  | .p020 _ _ _ => .poseidon
  | .p021 _ _ _ => .poseidon
  | .p022 _ _ _ => .poseidon
  | .p023 _ _ _ => .poseidon
  | .p024 _ _ _ => .poseidon
  | .p025 _ _ _ => .poseidon
  | .p026 _ _ _ => .poseidon
  | .p027 _ _ _ => .poseidon
  | .p030 _ _ _ => .poseidon
  | .p031 _ _ _ => .poseidon
  | .p032 _ _ _ => .poseidon
  | .p033 _ _ _ => .poseidon
  | .p034 _ _ _ => .poseidon
  | .p035 _ _ _ => .poseidon
  | .p036 _ _ _ => .poseidon
  | .p037 _ _ _ => .poseidon
  | .p040 _ _ _ => .poseidon
  | .p041 _ _ _ => .poseidon
  | .p042 _ _ _ => .poseidon
  | .p043 _ _ _ => .poseidon
  | .p044 _ _ _ => .poseidon
  | .p045 _ _ _ => .poseidon
  | .p046 _ _ _ => .poseidon
  | .p047 _ _ _ => .poseidon
  | .p050 _ _ _ => .poseidon
  | .p051 _ _ _ => .poseidon
  | .p052 _ _ _ => .poseidon
  | .p053 _ _ _ => .poseidon
  | .p054 _ _ _ => .poseidon
  | .p055 _ _ _ => .poseidon
  | .p056 _ _ _ => .poseidon
  | .p057 _ _ _ => .poseidon
  | .p060 _ _ _ => .poseidon
  | .p061 _ _ _ => .poseidon
  | .p062 _ _ _ => .poseidon
  | .p063 _ _ _ => .poseidon
  | .p064 _ _ _ => .poseidon
  | .p065 _ _ _ => .poseidon
  | .p066 _ _ _ => .poseidon
  | .p067 _ _ _ => .poseidon
  | .p070 _ _ _ => .poseidon
  | .p071 _ _ _ => .poseidon
  | .p072 _ _ _ => .poseidon
  | .p073 _ _ _ => .poseidon
  | .p074 _ _ _ => .poseidon
  | .p075 _ _ _ => .poseidon
  | .p076 _ _ _ => .poseidon
  | .p077 _ _ _ => .poseidon
  | .p1xx _ => .poseidon
  | .p2xx _ => .poseidon
  | .p3xx _ => .poseidon
  | .p4xx _ => .poseidon
  | .p5xx _ => .poseidon
  | .p6xx _ => .poseidon
  | .p7xx _ => .poseidon
  | .h0_00_0 _ _ _ => .hermes
  | .h0_01_0 _ _ _ => .hermes
  | .h0_00_1 _ _ _ => .hermes
  | .h0_01_1 _ _ _ => .hermes
  | .h0_00_2 _ _ _ => .hermes
  | .h0_01_2 _ _ _ => .hermes
  | .h0_00_3 _ _ _ => .hermes
  | .h0_01_3 _ _ _ => .hermes
  | .h0_00_4 _ _ _ => .hermes
  | .h0_01_4 _ _ _ => .hermes
  | .h0_00_5 _ _ _ => .hermes
  | .h0_01_5 _ _ _ => .hermes
  | .h0_00_6 _ _ _ => .hermes
  | .h0_01_6 _ _ _ => .hermes
  | .h0_00_7 _ _ _ => .hermes
  | .h0_01_7 _ _ _ => .hermes
  | .h0_10_0 _ _ _ => .hermes
  | .h0_11_0 _ _ _ => .hermes
  | .h0_10_1 _ _ _ => .hermes
  | .h0_11_1 _ _ _ => .hermes
  | .h0_10_2 _ _ _ => .hermes
  | .h0_11_2 _ _ _ => .hermes
  | .h0_10_3 _ _ _ => .hermes
  | .h0_11_3 _ _ _ => .hermes
  | .h0_10_4 _ _ _ => .hermes
  | .h0_11_4 _ _ _ => .hermes
  | .h0_10_5 _ _ _ => .hermes
  | .h0_11_5 _ _ _ => .hermes
  | .h0_10_6 _ _ _ => .hermes
  | .h0_11_6 _ _ _ => .hermes
  | .h0_10_7 _ _ _ => .hermes
  | .h0_11_7 _ _ _ => .hermes
  | .h0_2x _ => .hermes
  | .h0_3x _ => .hermes
  | .h1xx _ => .hermes
  | .h2xx _ => .hermes
  | .h3xx _ => .hermes
  | .h4xx _ => .hermes
  | .h5xx _ => .hermes
  | .h6xx _ => .hermes
  | .h7xx _ => .hermes
  | .a00 _ _ _ => .argus
  | .a01 _ _ _ => .argus
  | .a02 _ _ _ => .argus
  | .a03 _ _ _ => .argus
  | .a04 _ _ _ => .argus
  | .a05 _ _ _ => .argus
  | .a06 _ _ _ => .argus
  | .a07 _ _ _ => .argus
  | .a10 _ _ _ => .argus
  | .a11 _ _ _ => .argus
  | .a12 _ _ _ => .argus
  | .a13 _ _ _ => .argus
  | .a14 _ _ _ => .argus
  | .a15 _ _ _ => .argus
  | .a16 _ _ _ => .argus
  | .a17 _ _ _ => .argus
  | .a20 _ _ _ => .argus
  | .a21 _ _ _ => .argus
  | .a22 _ _ _ => .argus
  | .a23 _ _ _ => .argus
  | .a24 _ _ _ => .argus
  | .a25 _ _ _ => .argus
  | .a26 _ _ _ => .argus
  | .a27 _ _ _ => .argus
  | .a30 _ _ _ => .argus
  | .a31 _ _ _ => .argus
  | .a32 _ _ _ => .argus
  | .a33 _ _ _ => .argus
  | .a34 _ _ _ => .argus
  | .a35 _ _ _ => .argus
  | .a36 _ _ _ => .argus
  | .a37 _ _ _ => .argus
  | .a40 _ _ _ => .argus
  | .a41 _ _ _ => .argus
  | .a42 _ _ _ => .argus
  | .a43 _ _ _ => .argus
  | .a44 _ _ _ => .argus
  | .a45 _ _ _ => .argus
  | .a46 _ _ _ => .argus
  | .a47 _ _ _ => .argus
  | .a50 _ _ _ => .argus
  | .a51 _ _ _ => .argus
  | .a52 _ _ _ => .argus
  | .a53 _ _ _ => .argus
  | .a54 _ _ _ => .argus
  | .a55 _ _ _ => .argus
  | .a56 _ _ _ => .argus
  | .a57 _ _ _ => .argus
  | .a60 _ _ _ => .argus
  | .a61 _ _ _ => .argus
  | .a62 _ _ _ => .argus
  | .a63 _ _ _ => .argus
  | .a64 _ _ _ => .argus
  | .a65 _ _ _ => .argus
  | .a66 _ _ _ => .argus
  | .a67 _ _ _ => .argus
  | .a70 _ _ _ => .argus
  | .a71 _ _ _ => .argus
  | .a72 _ _ _ => .argus
  | .a73 _ _ _ => .argus
  | .a74 _ _ _ => .argus
  | .a75 _ _ _ => .argus
  | .a76 _ _ _ => .argus
  | .a77 _ _ _ => .argus

end Sys2Proof
end

