-- ==== Sys2Proof/WellFormed.lean ====
section
/-! DEFINITION. Which operands an order may have: the restrictions the spec puts on the fields themselves, whatever the
state. Everything else about a field is its width, which the type gives. -/

namespace Sys2Proof

/-- Why the operands of an order are not ones the spec gives a meaning. -/
inductive FormError where
  /-- W = 4 or 5 with a field equal to 3 (spec/40_poseidon_group0.md R143). -/
  | collateAtAddress3
  /-- A field equal to 3 outside V = 7 (spec/40_poseidon_group0.md R143). -/
  | address3OutsideV7
  /-- V = 7 with no field equal to 3 (spec/30_encoding.md R111). -/
  | noAddress3InV7
  /-- A = 2 (spec/40_poseidon_group0.md R143). -/
  | address2AsDestination
  /-- B or C = 2 outside V = 5 (spec/40_poseidon_group0.md R143). -/
  | address2OutsideV5
  /-- Argus 52 or 53 with X other than 4 and 7 (spec/47_argus_shift.md R344, R345). -/
  | shiftNeedsX4or7
  /-- Argus 54 or 55 with the count's destination inside the value normalised (spec/47_argus_shift.md R346, R347). -/
  | countOverlapsValue
deriving DecidableEq, Repr

/-- The tests of spec/40_poseidon_group0.md R143 that depend on the fields alone, in its order; `fast` is V = 5, `device` is
V = 7, `collate` is W = 4 or 5. -/
def poseidonForm (fast device collate : Bool) (a b c : Field5) : Option FormError :=
  let has3 : Bool := a = 3#5 || b = 3#5 || c = 3#5
  if collate && has3 then some .collateAtAddress3
  else if !device && has3 then some .address3OutsideV7
  else if device && !has3 then some .noAddress3InV7
  else if a = 2#5 then some .address2AsDestination
  else if !fast && (b = 2#5 || c = 2#5) then some .address2OutsideV5
  else none

/-- Argus 52 and 53 take X = 4 or 7 (spec/47_argus_shift.md R344, R345). -/
def doubleShiftForm (x : BitVec 3) : Option FormError :=
  if x = 4#3 || x = 7#3 then none else some .shiftNeedsX4or7

/-- Argus 54 refuses X = 4, 5, 7 (spec/47_argus_shift.md R346). -/
def normalisePForm (x : BitVec 3) : Option FormError :=
  if x = 4#3 || x = 5#3 || x = 7#3 then some .countOverlapsValue else none

/-- Argus 55 refuses X = 4, 5, 6, 7 (spec/47_argus_shift.md R347). -/
def normalisePQForm (x : BitVec 3) : Option FormError :=
  if x = 4#3 || x = 5#3 || x = 6#3 || x = 7#3 then some .countOverlapsValue else none

/-- The check of an order's operands. -/
def Instr.formError : Instr → Option FormError
  | .p000 a b c => poseidonForm false false false a b c
  | .p001 a b c => poseidonForm false false false a b c
  | .p002 a b c => poseidonForm false false false a b c
  | .p003 a b c => poseidonForm false false false a b c
  | .p004 a b c => poseidonForm false false true a b c
  | .p005 a b c => poseidonForm false false true a b c
  | .p006 a b c => poseidonForm false false false a b c
  | .p007 a b c => poseidonForm false false false a b c
  | .p010 a b c => poseidonForm false false false a b c
  | .p011 a b c => poseidonForm false false false a b c
  | .p012 a b c => poseidonForm false false false a b c
  | .p013 a b c => poseidonForm false false false a b c
  | .p014 a b c => poseidonForm false false true a b c
  | .p015 a b c => poseidonForm false false true a b c
  | .p016 a b c => poseidonForm false false false a b c
  | .p017 a b c => poseidonForm false false false a b c
  | .p020 a b c => poseidonForm false false false a b c
  | .p021 a b c => poseidonForm false false false a b c
  | .p022 a b c => poseidonForm false false false a b c
  | .p023 a b c => poseidonForm false false false a b c
  | .p024 a b c => poseidonForm false false true a b c
  | .p025 a b c => poseidonForm false false true a b c
  | .p026 a b c => poseidonForm false false false a b c
  | .p027 a b c => poseidonForm false false false a b c
  | .p030 a b c => poseidonForm false false false a b c
  | .p031 _ _ _ => none
  | .p032 a b c => poseidonForm false false false a b c
  | .p033 _ _ _ => none
  | .p034 a b c => poseidonForm false false true a b c
  | .p035 _ _ _ => none
  | .p036 a b c => poseidonForm false false false a b c
  | .p037 _ _ _ => none
  | .p040 a b c => poseidonForm false false false a b c
  | .p041 a b c => poseidonForm false false false a b c
  | .p042 a b c => poseidonForm false false false a b c
  | .p043 a b c => poseidonForm false false false a b c
  | .p044 a b c => poseidonForm false false true a b c
  | .p045 a b c => poseidonForm false false true a b c
  | .p046 a b c => poseidonForm false false false a b c
  | .p047 a b c => poseidonForm false false false a b c
  | .p050 a b c => poseidonForm true false false a b c
  | .p051 a b c => poseidonForm true false false a b c
  | .p052 a b c => poseidonForm true false false a b c
  | .p053 a b c => poseidonForm true false false a b c
  | .p054 a b c => poseidonForm true false true a b c
  | .p055 a b c => poseidonForm true false true a b c
  | .p056 a b c => poseidonForm true false false a b c
  | .p057 a b c => poseidonForm true false false a b c
  | .p060 a b c => poseidonForm false false false a b c
  | .p061 a b c => poseidonForm false false false a b c
  | .p062 a b c => poseidonForm false false false a b c
  | .p063 a b c => poseidonForm false false false a b c
  | .p064 a b c => poseidonForm false false true a b c
  | .p065 a b c => poseidonForm false false true a b c
  | .p066 a b c => poseidonForm false false false a b c
  | .p067 a b c => poseidonForm false false false a b c
  | .p070 a b c => poseidonForm false true false a b c
  | .p071 a b c => poseidonForm false true false a b c
  | .p072 a b c => poseidonForm false true false a b c
  | .p073 a b c => poseidonForm false true false a b c
  | .p074 a b c => poseidonForm false true true a b c
  | .p075 a b c => poseidonForm false true true a b c
  | .p076 a b c => poseidonForm false true false a b c
  | .p077 a b c => poseidonForm false true false a b c
  | .p1xx _ => none
  | .p2xx _ => none
  | .p3xx _ => none
  | .p4xx _ => none
  | .p5xx _ => none
  | .p6xx _ => none
  | .p7xx _ => none
  | .h0_00_0 _ _ _ => none
  | .h0_01_0 _ _ _ => none
  | .h0_00_1 _ _ _ => none
  | .h0_01_1 _ _ _ => none
  | .h0_00_2 _ _ _ => none
  | .h0_01_2 _ _ _ => none
  | .h0_00_3 _ _ _ => none
  | .h0_01_3 _ _ _ => none
  | .h0_00_4 _ _ _ => none
  | .h0_01_4 _ _ _ => none
  | .h0_00_5 _ _ _ => none
  | .h0_01_5 _ _ _ => none
  | .h0_00_6 _ _ _ => none
  | .h0_01_6 _ _ _ => none
  | .h0_00_7 _ _ _ => none
  | .h0_01_7 _ _ _ => none
  | .h0_10_0 _ _ _ => none
  | .h0_11_0 _ _ _ => none
  | .h0_10_1 _ _ _ => none
  | .h0_11_1 _ _ _ => none
  | .h0_10_2 _ _ _ => none
  | .h0_11_2 _ _ _ => none
  | .h0_10_3 _ _ _ => none
  | .h0_11_3 _ _ _ => none
  | .h0_10_4 _ _ _ => none
  | .h0_11_4 _ _ _ => none
  | .h0_10_5 _ _ _ => none
  | .h0_11_5 _ _ _ => none
  | .h0_10_6 _ _ _ => none
  | .h0_11_6 _ _ _ => none
  | .h0_10_7 _ _ _ => none
  | .h0_11_7 _ _ _ => none
  | .h0_2x _ => none
  | .h0_3x _ => none
  | .h1xx _ => none
  | .h2xx _ => none
  | .h3xx _ => none
  | .h4xx _ => none
  | .h5xx _ => none
  | .h6xx _ => none
  | .h7xx _ => none
  | .a00 _ _ _ => none
  | .a01 _ _ _ => none
  | .a02 _ _ _ => none
  | .a03 _ _ _ => none
  | .a04 _ _ _ => none
  | .a05 _ _ _ => none
  | .a06 _ _ _ => none
  | .a07 _ _ _ => none
  | .a10 _ _ _ => none
  | .a11 _ _ _ => none
  | .a12 _ _ _ => none
  | .a13 _ _ _ => none
  | .a14 _ _ _ => none
  | .a15 _ _ _ => none
  | .a16 _ _ _ => none
  | .a17 _ _ _ => none
  | .a20 _ _ _ => none
  | .a21 _ _ _ => none
  | .a22 _ _ _ => none
  | .a23 _ _ _ => none
  | .a24 _ _ _ => none
  | .a25 _ _ _ => none
  | .a26 _ _ _ => none
  | .a27 _ _ _ => none
  | .a30 _ _ _ => none
  | .a31 _ _ _ => none
  | .a32 _ _ _ => none
  | .a33 _ _ _ => none
  | .a34 _ _ _ => none
  | .a35 _ _ _ => none
  | .a36 _ _ _ => none
  | .a37 _ _ _ => none
  | .a40 _ _ _ => none
  | .a41 _ _ _ => none
  | .a42 _ _ _ => none
  | .a43 _ _ _ => none
  | .a44 _ _ _ => none
  | .a45 _ _ _ => none
  | .a46 _ _ _ => none
  | .a47 _ _ _ => none
  | .a50 _ _ _ => none
  | .a51 _ _ _ => none
  | .a52 _ x _ => doubleShiftForm x
  | .a53 _ x _ => doubleShiftForm x
  | .a54 _ x _ => normalisePForm x
  | .a55 _ x _ => normalisePQForm x
  | .a56 _ _ _ => none
  | .a57 _ _ _ => none
  | .a60 _ _ _ => none
  | .a61 _ _ _ => none
  | .a62 _ _ _ => none
  | .a63 _ _ _ => none
  | .a64 _ _ _ => none
  | .a65 _ _ _ => none
  | .a66 _ _ _ => none
  | .a67 _ _ _ => none
  | .a70 _ _ _ => none
  | .a71 _ _ _ => none
  | .a72 _ _ _ => none
  | .a73 _ _ _ => none
  | .a74 _ _ _ => none
  | .a75 _ _ _ => none
  | .a76 _ _ _ => none
  | .a77 _ _ _ => none

/-- An order whose operands pass every check. -/
abbrev Instr.WellFormed (i : Instr) : Prop := i.formError = none

end Sys2Proof
end

