-- ==== Sys2Proof/Decode.lean ====
section
/-! DEFINITION. The decoder and the encoder, from the formats of spec/30_encoding.md R101, R103, R105 and the opcode maps R107 to
R109. A decoder is told which machine it decodes for (R100) and is total (R118): every 24-bit word is a row of the opcode table. -/

namespace Sys2Proof

/-! ### Fields -/

/-- The nine function bits `word[23:15]`: U V W of the Poseidon, F I D S of the Hermes (R101, R103). -/
def functionBits (w : Order) : BitVec 9 := w.extractLsb' 15 9

/-- The first octal digit `word[23:21]`: U of the Poseidon, F of the Hermes (R101, R103). -/
def topDigit (w : Order) : BitVec 3 := w.extractLsb' 21 3

/-- Field A, `word[14:10]` (R101, R103). -/
def fieldA (w : Order) : Field5 := w.extractLsb' 10 5

/-- Field B, `word[9:5]` (R101, R103). -/
def fieldB (w : Order) : Field5 := w.extractLsb' 5 5

/-- Field C, `word[4:0]` (R101, R103). -/
def fieldC (w : Order) : Field5 := w.extractLsb' 0 5

/-- The bits below the first octal digit, `word[20:0]` (R112, R113). -/
def below21 (w : Order) : BitVec 21 := w.extractLsb' 0 21

/-- The bits below F and I of a Hermes order, `word[18:0]` (R113). -/
def below19 (w : Order) : BitVec 19 := w.extractLsb' 0 19

/-- Field N of an Argus order, `word[23:11]` (R105). -/
def fieldN (w : Order) : Addr13 := w.extractLsb' 11 13

/-- Field X of an Argus order, `word[10:8]` (R105). -/
def fieldX (w : Order) : BitVec 3 := w.extractLsb' 8 3

/-- Field F of an Argus order, `word[7:2]` (R105). -/
def fieldF (w : Order) : BitVec 6 := w.extractLsb' 2 6

/-- Field M of an Argus order, `word[1:0]` (R105). -/
def fieldM (w : Order) : BitVec 2 := w.extractLsb' 0 2

/-! ### Decoders -/

/-- A Poseidon order (R107, R110, R112). -/
def decodePoseidon (w : Order) : Instr :=
  match (functionBits w).toNat with
  | 0 => .p000 (fieldA w) (fieldB w) (fieldC w)
  | 1 => .p001 (fieldA w) (fieldB w) (fieldC w)
  | 2 => .p002 (fieldA w) (fieldB w) (fieldC w)
  | 3 => .p003 (fieldA w) (fieldB w) (fieldC w)
  | 4 => .p004 (fieldA w) (fieldB w) (fieldC w)
  | 5 => .p005 (fieldA w) (fieldB w) (fieldC w)
  | 6 => .p006 (fieldA w) (fieldB w) (fieldC w)
  | 7 => .p007 (fieldA w) (fieldB w) (fieldC w)
  | 8 => .p010 (fieldA w) (fieldB w) (fieldC w)
  | 9 => .p011 (fieldA w) (fieldB w) (fieldC w)
  | 10 => .p012 (fieldA w) (fieldB w) (fieldC w)
  | 11 => .p013 (fieldA w) (fieldB w) (fieldC w)
  | 12 => .p014 (fieldA w) (fieldB w) (fieldC w)
  | 13 => .p015 (fieldA w) (fieldB w) (fieldC w)
  | 14 => .p016 (fieldA w) (fieldB w) (fieldC w)
  | 15 => .p017 (fieldA w) (fieldB w) (fieldC w)
  | 16 => .p020 (fieldA w) (fieldB w) (fieldC w)
  | 17 => .p021 (fieldA w) (fieldB w) (fieldC w)
  | 18 => .p022 (fieldA w) (fieldB w) (fieldC w)
  | 19 => .p023 (fieldA w) (fieldB w) (fieldC w)
  | 20 => .p024 (fieldA w) (fieldB w) (fieldC w)
  | 21 => .p025 (fieldA w) (fieldB w) (fieldC w)
  | 22 => .p026 (fieldA w) (fieldB w) (fieldC w)
  | 23 => .p027 (fieldA w) (fieldB w) (fieldC w)
  | 24 => .p030 (fieldA w) (fieldB w) (fieldC w)
  | 25 => .p031 (fieldA w) (fieldB w) (fieldC w)
  | 26 => .p032 (fieldA w) (fieldB w) (fieldC w)
  | 27 => .p033 (fieldA w) (fieldB w) (fieldC w)
  | 28 => .p034 (fieldA w) (fieldB w) (fieldC w)
  | 29 => .p035 (fieldA w) (fieldB w) (fieldC w)
  | 30 => .p036 (fieldA w) (fieldB w) (fieldC w)
  | 31 => .p037 (fieldA w) (fieldB w) (fieldC w)
  | 32 => .p040 (fieldA w) (fieldB w) (fieldC w)
  | 33 => .p041 (fieldA w) (fieldB w) (fieldC w)
  | 34 => .p042 (fieldA w) (fieldB w) (fieldC w)
  | 35 => .p043 (fieldA w) (fieldB w) (fieldC w)
  | 36 => .p044 (fieldA w) (fieldB w) (fieldC w)
  | 37 => .p045 (fieldA w) (fieldB w) (fieldC w)
  | 38 => .p046 (fieldA w) (fieldB w) (fieldC w)
  | 39 => .p047 (fieldA w) (fieldB w) (fieldC w)
  | 40 => .p050 (fieldA w) (fieldB w) (fieldC w)
  | 41 => .p051 (fieldA w) (fieldB w) (fieldC w)
  | 42 => .p052 (fieldA w) (fieldB w) (fieldC w)
  | 43 => .p053 (fieldA w) (fieldB w) (fieldC w)
  | 44 => .p054 (fieldA w) (fieldB w) (fieldC w)
  | 45 => .p055 (fieldA w) (fieldB w) (fieldC w)
  | 46 => .p056 (fieldA w) (fieldB w) (fieldC w)
  | 47 => .p057 (fieldA w) (fieldB w) (fieldC w)
  | 48 => .p060 (fieldA w) (fieldB w) (fieldC w)
  | 49 => .p061 (fieldA w) (fieldB w) (fieldC w)
  | 50 => .p062 (fieldA w) (fieldB w) (fieldC w)
  | 51 => .p063 (fieldA w) (fieldB w) (fieldC w)
  | 52 => .p064 (fieldA w) (fieldB w) (fieldC w)
  | 53 => .p065 (fieldA w) (fieldB w) (fieldC w)
  | 54 => .p066 (fieldA w) (fieldB w) (fieldC w)
  | 55 => .p067 (fieldA w) (fieldB w) (fieldC w)
  | 56 => .p070 (fieldA w) (fieldB w) (fieldC w)
  | 57 => .p071 (fieldA w) (fieldB w) (fieldC w)
  | 58 => .p072 (fieldA w) (fieldB w) (fieldC w)
  | 59 => .p073 (fieldA w) (fieldB w) (fieldC w)
  | 60 => .p074 (fieldA w) (fieldB w) (fieldC w)
  | 61 => .p075 (fieldA w) (fieldB w) (fieldC w)
  | 62 => .p076 (fieldA w) (fieldB w) (fieldC w)
  | 63 => .p077 (fieldA w) (fieldB w) (fieldC w)
  | _ =>
    match (topDigit w).toNat with
    | 1 => .p1xx (below21 w)
    | 2 => .p2xx (below21 w)
    | 3 => .p3xx (below21 w)
    | 4 => .p4xx (below21 w)
    | 5 => .p5xx (below21 w)
    | 6 => .p6xx (below21 w)
    | _ => .p7xx (below21 w)

/-- A Hermes order (R108, R113). -/
def decodeHermes (w : Order) : Instr :=
  match (functionBits w).toNat with
  | 0 => .h0_00_0 (fieldA w) (fieldB w) (fieldC w)
  | 8 => .h0_01_0 (fieldA w) (fieldB w) (fieldC w)
  | 1 => .h0_00_1 (fieldA w) (fieldB w) (fieldC w)
  | 9 => .h0_01_1 (fieldA w) (fieldB w) (fieldC w)
  | 2 => .h0_00_2 (fieldA w) (fieldB w) (fieldC w)
  | 10 => .h0_01_2 (fieldA w) (fieldB w) (fieldC w)
  | 3 => .h0_00_3 (fieldA w) (fieldB w) (fieldC w)
  | 11 => .h0_01_3 (fieldA w) (fieldB w) (fieldC w)
  | 4 => .h0_00_4 (fieldA w) (fieldB w) (fieldC w)
  | 12 => .h0_01_4 (fieldA w) (fieldB w) (fieldC w)
  | 5 => .h0_00_5 (fieldA w) (fieldB w) (fieldC w)
  | 13 => .h0_01_5 (fieldA w) (fieldB w) (fieldC w)
  | 6 => .h0_00_6 (fieldA w) (fieldB w) (fieldC w)
  | 14 => .h0_01_6 (fieldA w) (fieldB w) (fieldC w)
  | 7 => .h0_00_7 (fieldA w) (fieldB w) (fieldC w)
  | 15 => .h0_01_7 (fieldA w) (fieldB w) (fieldC w)
  | 16 => .h0_10_0 (fieldA w) (fieldB w) (fieldC w)
  | 24 => .h0_11_0 (fieldA w) (fieldB w) (fieldC w)
  | 17 => .h0_10_1 (fieldA w) (fieldB w) (fieldC w)
  | 25 => .h0_11_1 (fieldA w) (fieldB w) (fieldC w)
  | 18 => .h0_10_2 (fieldA w) (fieldB w) (fieldC w)
  | 26 => .h0_11_2 (fieldA w) (fieldB w) (fieldC w)
  | 19 => .h0_10_3 (fieldA w) (fieldB w) (fieldC w)
  | 27 => .h0_11_3 (fieldA w) (fieldB w) (fieldC w)
  | 20 => .h0_10_4 (fieldA w) (fieldB w) (fieldC w)
  | 28 => .h0_11_4 (fieldA w) (fieldB w) (fieldC w)
  | 21 => .h0_10_5 (fieldA w) (fieldB w) (fieldC w)
  | 29 => .h0_11_5 (fieldA w) (fieldB w) (fieldC w)
  | 22 => .h0_10_6 (fieldA w) (fieldB w) (fieldC w)
  | 30 => .h0_11_6 (fieldA w) (fieldB w) (fieldC w)
  | 23 => .h0_10_7 (fieldA w) (fieldB w) (fieldC w)
  | 31 => .h0_11_7 (fieldA w) (fieldB w) (fieldC w)
  | _ =>
    match (topDigit w).toNat with
    | 0 => if w.getLsbD 19 then .h0_3x (below19 w) else .h0_2x (below19 w)
    | 1 => .h1xx (below21 w)
    | 2 => .h2xx (below21 w)
    | 3 => .h3xx (below21 w)
    | 4 => .h4xx (below21 w)
    | 5 => .h5xx (below21 w)
    | 6 => .h6xx (below21 w)
    | _ => .h7xx (below21 w)

/-- An Argus order (R109, R114). -/
def decodeArgus (w : Order) : Instr :=
  match (fieldF w).toNat with
  | 0 => .a00 (fieldN w) (fieldX w) (fieldM w)
  | 1 => .a01 (fieldN w) (fieldX w) (fieldM w)
  | 2 => .a02 (fieldN w) (fieldX w) (fieldM w)
  | 3 => .a03 (fieldN w) (fieldX w) (fieldM w)
  | 4 => .a04 (fieldN w) (fieldX w) (fieldM w)
  | 5 => .a05 (fieldN w) (fieldX w) (fieldM w)
  | 6 => .a06 (fieldN w) (fieldX w) (fieldM w)
  | 7 => .a07 (fieldN w) (fieldX w) (fieldM w)
  | 8 => .a10 (fieldN w) (fieldX w) (fieldM w)
  | 9 => .a11 (fieldN w) (fieldX w) (fieldM w)
  | 10 => .a12 (fieldN w) (fieldX w) (fieldM w)
  | 11 => .a13 (fieldN w) (fieldX w) (fieldM w)
  | 12 => .a14 (fieldN w) (fieldX w) (fieldM w)
  | 13 => .a15 (fieldN w) (fieldX w) (fieldM w)
  | 14 => .a16 (fieldN w) (fieldX w) (fieldM w)
  | 15 => .a17 (fieldN w) (fieldX w) (fieldM w)
  | 16 => .a20 (fieldN w) (fieldX w) (fieldM w)
  | 17 => .a21 (fieldN w) (fieldX w) (fieldM w)
  | 18 => .a22 (fieldN w) (fieldX w) (fieldM w)
  | 19 => .a23 (fieldN w) (fieldX w) (fieldM w)
  | 20 => .a24 (fieldN w) (fieldX w) (fieldM w)
  | 21 => .a25 (fieldN w) (fieldX w) (fieldM w)
  | 22 => .a26 (fieldN w) (fieldX w) (fieldM w)
  | 23 => .a27 (fieldN w) (fieldX w) (fieldM w)
  | 24 => .a30 (fieldN w) (fieldX w) (fieldM w)
  | 25 => .a31 (fieldN w) (fieldX w) (fieldM w)
  | 26 => .a32 (fieldN w) (fieldX w) (fieldM w)
  | 27 => .a33 (fieldN w) (fieldX w) (fieldM w)
  | 28 => .a34 (fieldN w) (fieldX w) (fieldM w)
  | 29 => .a35 (fieldN w) (fieldX w) (fieldM w)
  | 30 => .a36 (fieldN w) (fieldX w) (fieldM w)
  | 31 => .a37 (fieldN w) (fieldX w) (fieldM w)
  | 32 => .a40 (fieldN w) (fieldX w) (fieldM w)
  | 33 => .a41 (fieldN w) (fieldX w) (fieldM w)
  | 34 => .a42 (fieldN w) (fieldX w) (fieldM w)
  | 35 => .a43 (fieldN w) (fieldX w) (fieldM w)
  | 36 => .a44 (fieldN w) (fieldX w) (fieldM w)
  | 37 => .a45 (fieldN w) (fieldX w) (fieldM w)
  | 38 => .a46 (fieldN w) (fieldX w) (fieldM w)
  | 39 => .a47 (fieldN w) (fieldX w) (fieldM w)
  | 40 => .a50 (fieldN w) (fieldX w) (fieldM w)
  | 41 => .a51 (fieldN w) (fieldX w) (fieldM w)
  | 42 => .a52 (fieldN w) (fieldX w) (fieldM w)
  | 43 => .a53 (fieldN w) (fieldX w) (fieldM w)
  | 44 => .a54 (fieldN w) (fieldX w) (fieldM w)
  | 45 => .a55 (fieldN w) (fieldX w) (fieldM w)
  | 46 => .a56 (fieldN w) (fieldX w) (fieldM w)
  | 47 => .a57 (fieldN w) (fieldX w) (fieldM w)
  | 48 => .a60 (fieldN w) (fieldX w) (fieldM w)
  | 49 => .a61 (fieldN w) (fieldX w) (fieldM w)
  | 50 => .a62 (fieldN w) (fieldX w) (fieldM w)
  | 51 => .a63 (fieldN w) (fieldX w) (fieldM w)
  | 52 => .a64 (fieldN w) (fieldX w) (fieldM w)
  | 53 => .a65 (fieldN w) (fieldX w) (fieldM w)
  | 54 => .a66 (fieldN w) (fieldX w) (fieldM w)
  | 55 => .a67 (fieldN w) (fieldX w) (fieldM w)
  | 56 => .a70 (fieldN w) (fieldX w) (fieldM w)
  | 57 => .a71 (fieldN w) (fieldX w) (fieldM w)
  | 58 => .a72 (fieldN w) (fieldX w) (fieldM w)
  | 59 => .a73 (fieldN w) (fieldX w) (fieldM w)
  | 60 => .a74 (fieldN w) (fieldX w) (fieldM w)
  | 61 => .a75 (fieldN w) (fieldX w) (fieldM w)
  | 62 => .a76 (fieldN w) (fieldX w) (fieldM w)
  | _ => .a77 (fieldN w) (fieldX w) (fieldM w)

/-- The decoder, told which machine it decodes for (R100, R118). -/
def decode (m : MachineId) (w : Order) : Instr :=
  match m with
  | .poseidon => decodePoseidon w
  | .hermes => decodeHermes w
  | .argus => decodeArgus w

/-- Why a run of bits is not one order. -/
inductive DecodeError where
  /-- Not one word of 24 bits (R100: no machine has a second instruction length). -/
  | notOneWord
  /-- The number does not fit the bits given. -/
  | doesNotFit
  /-- An Apollo program: `refuse("apollo: no data in source")`, whatever the word (spec/43_apollo.md R261). -/
  | apolloNoData
deriving DecidableEq, Repr

/-- One order of a family read from `nbits` bits that spell the number `w`, bit 0 the least significant (R8, R100). Bits the
table leaves out are zeros. For the Apollo every word is refused (spec/43_apollo.md R261). -/
def decodeBits (f : Family) (nbits w : Nat) : Except DecodeError Instr :=
  match f.machine with
  | none => .error .apolloNoData
  | some m =>
    if 24 < nbits then .error .notOneWord
    else if 2 ^ nbits ≤ w then .error .doesNotFit
    else .ok (decode m (BitVec.ofNat 24 w))

/-- The instruction read from a word of the opcode table, for the machine that `State.reset` runs (log 1: the three opcode maps
use the same words, and a decoder is told which machine it decodes for, R100). -/
def decodeTableWord (nbits w : Nat) : Option Instr :=
  match decodeBits Config.resetMachine nbits w with
  | .ok i => some i
  | .error _ => none

/-! ### The encoder -/

/-- `U V W A B C` or `F I D S A B C`, the first field most significant (R101, R103). -/
def packABC (f : BitVec 9) (a b c : Field5) : Order := f ++ a ++ b ++ c

/-- A first octal digit and the 21 bits below it (R112, R113). -/
def packRest21 (u : BitVec 3) (rest : BitVec 21) : Order := u ++ rest

/-- F and I of a Hermes order and the 19 bits below them (R113). -/
def packRest19 (fi : BitVec 5) (rest : BitVec 19) : Order := fi ++ rest

/-- `N X F M`, the first field most significant (R105). -/
def packNXFM (n : Addr13) (x : BitVec 3) (f : BitVec 6) (m : BitVec 2) : Order := n ++ x ++ f ++ m

/-- The word of an order (R101, R103, R105). -/
def encode : Instr → Order
  | .p000 a b c => packABC 0#9 a b c
  | .p001 a b c => packABC 1#9 a b c
  | .p002 a b c => packABC 2#9 a b c
  | .p003 a b c => packABC 3#9 a b c
  | .p004 a b c => packABC 4#9 a b c
  | .p005 a b c => packABC 5#9 a b c
  | .p006 a b c => packABC 6#9 a b c
  | .p007 a b c => packABC 7#9 a b c
  | .p010 a b c => packABC 8#9 a b c
  | .p011 a b c => packABC 9#9 a b c
  | .p012 a b c => packABC 10#9 a b c
  | .p013 a b c => packABC 11#9 a b c
  | .p014 a b c => packABC 12#9 a b c
  | .p015 a b c => packABC 13#9 a b c
  | .p016 a b c => packABC 14#9 a b c
  | .p017 a b c => packABC 15#9 a b c
  | .p020 a b c => packABC 16#9 a b c
  | .p021 a b c => packABC 17#9 a b c
  | .p022 a b c => packABC 18#9 a b c
  | .p023 a b c => packABC 19#9 a b c
  | .p024 a b c => packABC 20#9 a b c
  | .p025 a b c => packABC 21#9 a b c
  | .p026 a b c => packABC 22#9 a b c
  | .p027 a b c => packABC 23#9 a b c
  | .p030 a b c => packABC 24#9 a b c
  | .p031 a b c => packABC 25#9 a b c
  | .p032 a b c => packABC 26#9 a b c
  | .p033 a b c => packABC 27#9 a b c
  | .p034 a b c => packABC 28#9 a b c
  | .p035 a b c => packABC 29#9 a b c
  | .p036 a b c => packABC 30#9 a b c
  | .p037 a b c => packABC 31#9 a b c
  | .p040 a b c => packABC 32#9 a b c
  | .p041 a b c => packABC 33#9 a b c
  | .p042 a b c => packABC 34#9 a b c
  | .p043 a b c => packABC 35#9 a b c
  | .p044 a b c => packABC 36#9 a b c
  | .p045 a b c => packABC 37#9 a b c
  | .p046 a b c => packABC 38#9 a b c
  | .p047 a b c => packABC 39#9 a b c
  | .p050 a b c => packABC 40#9 a b c
  | .p051 a b c => packABC 41#9 a b c
  | .p052 a b c => packABC 42#9 a b c
  | .p053 a b c => packABC 43#9 a b c
  | .p054 a b c => packABC 44#9 a b c
  | .p055 a b c => packABC 45#9 a b c
  | .p056 a b c => packABC 46#9 a b c
  | .p057 a b c => packABC 47#9 a b c
  | .p060 a b c => packABC 48#9 a b c
  | .p061 a b c => packABC 49#9 a b c
  | .p062 a b c => packABC 50#9 a b c
  | .p063 a b c => packABC 51#9 a b c
  | .p064 a b c => packABC 52#9 a b c
  | .p065 a b c => packABC 53#9 a b c
  | .p066 a b c => packABC 54#9 a b c
  | .p067 a b c => packABC 55#9 a b c
  | .p070 a b c => packABC 56#9 a b c
  | .p071 a b c => packABC 57#9 a b c
  | .p072 a b c => packABC 58#9 a b c
  | .p073 a b c => packABC 59#9 a b c
  | .p074 a b c => packABC 60#9 a b c
  | .p075 a b c => packABC 61#9 a b c
  | .p076 a b c => packABC 62#9 a b c
  | .p077 a b c => packABC 63#9 a b c
  | .p1xx rest => packRest21 1#3 rest
  | .p2xx rest => packRest21 2#3 rest
  | .p3xx rest => packRest21 3#3 rest
  | .p4xx rest => packRest21 4#3 rest
  | .p5xx rest => packRest21 5#3 rest
  | .p6xx rest => packRest21 6#3 rest
  | .p7xx rest => packRest21 7#3 rest
  | .h0_00_0 a b c => packABC 0#9 a b c
  | .h0_01_0 a b c => packABC 8#9 a b c
  | .h0_00_1 a b c => packABC 1#9 a b c
  | .h0_01_1 a b c => packABC 9#9 a b c
  | .h0_00_2 a b c => packABC 2#9 a b c
  | .h0_01_2 a b c => packABC 10#9 a b c
  | .h0_00_3 a b c => packABC 3#9 a b c
  | .h0_01_3 a b c => packABC 11#9 a b c
  | .h0_00_4 a b c => packABC 4#9 a b c
  | .h0_01_4 a b c => packABC 12#9 a b c
  | .h0_00_5 a b c => packABC 5#9 a b c
  | .h0_01_5 a b c => packABC 13#9 a b c
  | .h0_00_6 a b c => packABC 6#9 a b c
  | .h0_01_6 a b c => packABC 14#9 a b c
  | .h0_00_7 a b c => packABC 7#9 a b c
  | .h0_01_7 a b c => packABC 15#9 a b c
  | .h0_10_0 a b c => packABC 16#9 a b c
  | .h0_11_0 a b c => packABC 24#9 a b c
  | .h0_10_1 a b c => packABC 17#9 a b c
  | .h0_11_1 a b c => packABC 25#9 a b c
  | .h0_10_2 a b c => packABC 18#9 a b c
  | .h0_11_2 a b c => packABC 26#9 a b c
  | .h0_10_3 a b c => packABC 19#9 a b c
  | .h0_11_3 a b c => packABC 27#9 a b c
  | .h0_10_4 a b c => packABC 20#9 a b c
  | .h0_11_4 a b c => packABC 28#9 a b c
  | .h0_10_5 a b c => packABC 21#9 a b c
  | .h0_11_5 a b c => packABC 29#9 a b c
  | .h0_10_6 a b c => packABC 22#9 a b c
  | .h0_11_6 a b c => packABC 30#9 a b c
  | .h0_10_7 a b c => packABC 23#9 a b c
  | .h0_11_7 a b c => packABC 31#9 a b c
  | .h0_2x rest => packRest19 2#5 rest
  | .h0_3x rest => packRest19 3#5 rest
  | .h1xx rest => packRest21 1#3 rest
  | .h2xx rest => packRest21 2#3 rest
  | .h3xx rest => packRest21 3#3 rest
  | .h4xx rest => packRest21 4#3 rest
  | .h5xx rest => packRest21 5#3 rest
  | .h6xx rest => packRest21 6#3 rest
  | .h7xx rest => packRest21 7#3 rest
  | .a00 n x m => packNXFM n x 0#6 m
  | .a01 n x m => packNXFM n x 1#6 m
  | .a02 n x m => packNXFM n x 2#6 m
  | .a03 n x m => packNXFM n x 3#6 m
  | .a04 n x m => packNXFM n x 4#6 m
  | .a05 n x m => packNXFM n x 5#6 m
  | .a06 n x m => packNXFM n x 6#6 m
  | .a07 n x m => packNXFM n x 7#6 m
  | .a10 n x m => packNXFM n x 8#6 m
  | .a11 n x m => packNXFM n x 9#6 m
  | .a12 n x m => packNXFM n x 10#6 m
  | .a13 n x m => packNXFM n x 11#6 m
  | .a14 n x m => packNXFM n x 12#6 m
  | .a15 n x m => packNXFM n x 13#6 m
  | .a16 n x m => packNXFM n x 14#6 m
  | .a17 n x m => packNXFM n x 15#6 m
  | .a20 n x m => packNXFM n x 16#6 m
  | .a21 n x m => packNXFM n x 17#6 m
  | .a22 n x m => packNXFM n x 18#6 m
  | .a23 n x m => packNXFM n x 19#6 m
  | .a24 n x m => packNXFM n x 20#6 m
  | .a25 n x m => packNXFM n x 21#6 m
  | .a26 n x m => packNXFM n x 22#6 m
  | .a27 n x m => packNXFM n x 23#6 m
  | .a30 n x m => packNXFM n x 24#6 m
  | .a31 n x m => packNXFM n x 25#6 m
  | .a32 n x m => packNXFM n x 26#6 m
  | .a33 n x m => packNXFM n x 27#6 m
  | .a34 n x m => packNXFM n x 28#6 m
  | .a35 n x m => packNXFM n x 29#6 m
  | .a36 n x m => packNXFM n x 30#6 m
  | .a37 n x m => packNXFM n x 31#6 m
  | .a40 n x m => packNXFM n x 32#6 m
  | .a41 n x m => packNXFM n x 33#6 m
  | .a42 n x m => packNXFM n x 34#6 m
  | .a43 n x m => packNXFM n x 35#6 m
  | .a44 n x m => packNXFM n x 36#6 m
  | .a45 n x m => packNXFM n x 37#6 m
  | .a46 n x m => packNXFM n x 38#6 m
  | .a47 n x m => packNXFM n x 39#6 m
  | .a50 n x m => packNXFM n x 40#6 m
  | .a51 n x m => packNXFM n x 41#6 m
  | .a52 n x m => packNXFM n x 42#6 m
  | .a53 n x m => packNXFM n x 43#6 m
  | .a54 n x m => packNXFM n x 44#6 m
  | .a55 n x m => packNXFM n x 45#6 m
  | .a56 n x m => packNXFM n x 46#6 m
  | .a57 n x m => packNXFM n x 47#6 m
  | .a60 n x m => packNXFM n x 48#6 m
  | .a61 n x m => packNXFM n x 49#6 m
  | .a62 n x m => packNXFM n x 50#6 m
  | .a63 n x m => packNXFM n x 51#6 m
  | .a64 n x m => packNXFM n x 52#6 m
  | .a65 n x m => packNXFM n x 53#6 m
  | .a66 n x m => packNXFM n x 54#6 m
  | .a67 n x m => packNXFM n x 55#6 m
  | .a70 n x m => packNXFM n x 56#6 m
  | .a71 n x m => packNXFM n x 57#6 m
  | .a72 n x m => packNXFM n x 58#6 m
  | .a73 n x m => packNXFM n x 59#6 m
  | .a74 n x m => packNXFM n x 60#6 m
  | .a75 n x m => packNXFM n x 61#6 m
  | .a76 n x m => packNXFM n x 62#6 m
  | .a77 n x m => packNXFM n x 63#6 m

end Sys2Proof
end

