-- ==== Sys2Proof/Machine/Arith.lean ====
section
/-! DEFINITION. The number readings and the arithmetic primitives of spec/00_scope.md R13 and R16: a word of `w` bits is the
natural number it denotes unsigned. -/

namespace Sys2Proof.Machine

/-- `trunc_w(i)`: the integer modulo 2^w, as a word (R13). -/
def trunc (w : Nat) (i : Int) : Nat := (i % ((2 ^ w : Nat) : Int)).toNat

/-- `s(v)`: the integer a word of `w` bits denotes in two's complement (R13). -/
def sval (w : Nat) (v : Nat) : Int := if v < 2 ^ (w - 1) then (v : Int) else (v : Int) - ((2 ^ w : Nat) : Int)

/-- `add_w(a, b)` (R16). -/
def addW (w : Nat) (a b : Nat) : Nat := trunc w ((a : Int) + (b : Int))

/-- `sub_w(a, b)` (R16). -/
def subW (w : Nat) (a b : Nat) : Nat := trunc w ((a : Int) - (b : Int))

/-- `neg_w(a)` (R16). -/
def negW (w : Nat) (a : Nat) : Nat := trunc w (-(a : Int))

/-- `and` (R16). -/
def andW (a b : Nat) : Nat := a &&& b

/-- `xor` (R16). -/
def xorW (a b : Nat) : Nat := a ^^^ b

/-- `not_w(a)` (R16). -/
def notW (w : Nat) (a : Nat) : Nat := 2 ^ w - 1 - a

/-- A 5-bit field widened to `w` bits (R13). -/
def extend5 (e : Extension) (w : Nat) (f : Field5) : Nat :=
  match e with
  | .zero => trunc w (f.toNat : Int)
  | .sign => trunc w f.toInt

/-- A 13-bit value widened, or reduced, to `w` bits (spec/20_memory.md R87). -/
def extend13 (e : Extension) (w : Nat) (f : Addr13) : Nat :=
  match e with
  | .zero => trunc w (f.toNat : Int)
  | .sign => trunc w f.toInt

/-- The result of `sha_w(v, k)`: a shift by `k` places, up when `k` is not negative; down, the sign is copied in and nothing is
rounded (spec/47_argus_shift.md R341). -/
def shiftArith (w : Nat) (v : Nat) (k : Int) : Nat :=
  if 0 ≤ k then trunc w (sval w v * ((2 ^ k.toNat : Nat) : Int))
  else trunc w (sval w v / ((2 ^ (-k).toNat : Nat) : Int))

/-- `shl_w(v, k)`: a shift with zeros entering at either end (spec/47_argus_shift.md R341). -/
def shiftLogical (w : Nat) (v : Nat) (k : Int) : Nat :=
  if 0 ≤ k then trunc w ((v : Int) * ((2 ^ k.toNat : Nat) : Int))
  else v / 2 ^ (-k).toNat

/-- Bits w-1 and w-2 differ: the value is normalised (spec/47_argus_shift.md R349). -/
def isNormalised (w : Nat) (v : Nat) : Bool := v.testBit (w - 1) != v.testBit (w - 2)

/-- The places of `norm_w(v)`: the least `k` for which the value shifted up by `k` is normalised; for a `v` that is not zero there is
one, at most w-1 (spec/47_argus_shift.md R349). -/
def normaliseCount (w : Nat) (v : Nat) : Nat :=
  ((List.range w).find? fun k : Nat => isNormalised w (shiftArith w v (k : Int))).getD (w - 1)

/-- The value of `norm_w(v)` (spec/47_argus_shift.md R349). -/
def normaliseValue (w : Nat) (v : Nat) : Nat := shiftArith w v (normaliseCount w v : Int)

end Sys2Proof.Machine
end

