-- ==== Sys2Proof/Machine/State.lean ====
section
/-! DEFINITION. The state of the three machines as plain data, the reasons a step can stop, and the state after reset. -/

namespace Sys2Proof.Machine

/-- The contents of a store: (address, word) pairs, addresses strictly rising. An address with no entry holds nothing that a
program or the launch has written (spec/70_reset_and_hazards.md R440). -/
abbrev Cells (α : Type) := List (Nat × α)

/-- A store of data words (spec/20_memory.md R72, R75, R80). -/
abbrev Memory := Cells Nat

/-- A program store: orders, which no order writes (spec/20_memory.md R70, R76, R82). -/
abbrev Program := Cells Order

/-- P.mode (spec/10_state.md R28). -/
inductive PMode where
  | inner
  | outer
deriving DecidableEq, Repr

/-- One entry of the event history: a value drawn from outside the model (spec/00_scope.md R17). -/
inductive Event where
  /-- P.CR.neg and P.CR.zero after a logical order (spec/40_poseidon_group0.md R142). -/
  | conditionRecord (neg zero : Bool)
  /-- A tape character (R163). -/
  | tapeCharacter (ch : BitVec 5)
  /-- The Handswitches (R164). -/
  | handswitches (w : Nat)
  /-- A store word that nothing had written (spec/70_reset_and_hazards.md R440). -/
  | unwrittenWord (address : Nat) (value : Nat)
  /-- A typewriter test (spec/48_argus_jump.md R372). -/
  | typewriter (busy : Bool)
  /-- An input order: its function, its selector Ne and the word delivered (spec/46_argus_input.md R330). -/
  | input (function : BitVec 6) (selector : Addr13) (value : Nat)
  /-- The choice between interruption entry and the ordinary step (spec/60_exceptions.md R402). -/
  | interruption (taken : Bool)
deriving DecidableEq, Repr

/-- The Poseidon (spec/10_state.md R20 to R30). -/
structure PState where
  /-- P.R (R20). -/
  r : Vector Nat 32
  /-- P.N (R21). -/
  n : Addr13
  /-- P.L (R22). -/
  l : Addr13
  /-- P.lambda (R23). -/
  lambda : Addr13
  /-- P.mu, of no given width (R24). -/
  mu : Nat
  /-- P.alpha, of no given width (R24). -/
  alpha : Nat
  /-- P.kappa, of no given width (R24). -/
  kappa : Nat
  /-- P.CR.neg (R25). -/
  crNeg : Bool
  /-- P.CR.zero (R25). -/
  crZero : Bool
  /-- P.OVR (R25). -/
  ovr : Bool
  /-- P.Q, P_NQ stats (R26). -/
  q : List Bool
  /-- P.pc (R27). -/
  pc : Addr13
  /-- P.mode (R28). -/
  mode : PMode
  /-- P.punch, oldest character first (R29). -/
  punch : List (BitVec 5)
  /-- P.FPS, which is P.PROG (spec/20_memory.md R70). -/
  fps : Program
  /-- P.DS (spec/20_memory.md R72). -/
  ds : Memory
  /-- The event history (spec/70_reset_and_hazards.md R440), oldest first. -/
  history : List Event
deriving DecidableEq, Repr

/-- The Hermes (spec/10_state.md R40 to R45). -/
structure HState where
  /-- H.V (R40). -/
  v : Memory
  /-- H.N1 (R41). -/
  n1 : Nat
  /-- H.pc (R42). -/
  pc : Nat
  /-- H.PROG (spec/20_memory.md R76). -/
  prog : Program
  /-- The event history (spec/70_reset_and_hazards.md R440), oldest first. -/
  history : List Event
deriving DecidableEq, Repr

/-- The Argus (spec/10_state.md R50 to R61). -/
structure AState where
  /-- A.x, the short accumulators; P1 and P2 are `x[4]` and `x[5]` (R50, R51). -/
  x : Vector Nat 6
  /-- A.Q1 (R51). -/
  q1 : Nat
  /-- A.Q2 (R51). -/
  q2 : Nat
  /-- A.OVR (R54). -/
  ovr : Bool
  /-- A.mod[1] to A.mod[3], at index 0 to 2 (R55). -/
  mod : Vector Addr13 3
  /-- A.link (R56). -/
  link : Addr13
  /-- A.pc (R58). -/
  pc : Addr13
  /-- A.halted (R60). -/
  halted : Bool
  /-- A.S (spec/20_memory.md R80). -/
  s : Memory
  /-- Register 20, where A_IOREG gives it a cell of its own (R59). -/
  reg20 : Nat
  /-- Register 22, where A_IOREG gives it a cell of its own (R59). -/
  reg22 : Nat
  /-- A.PROG (spec/20_memory.md R82). -/
  prog : Program
  /-- The event history (spec/70_reset_and_hazards.md R440), oldest first. -/
  history : List Event
deriving DecidableEq, Repr

/-- The three machines, their configuration, and the family a step is a step of (spec/00_scope.md R19, R7; log 1, log 2). -/
structure State where
  running : Family
  cfg : Config
  p : PState
  h : HState
  a : AState
deriving DecidableEq, Repr

/-- Where a step stops with no next state: the outcomes `stuck` and `halt` of spec/00_scope.md R17. All are safe: nothing is
proved of a run beyond them. -/
inductive Fault where
  /-- Raised by the fetch: P.pc at or above P_FPS_SIZE (spec/10_state.md R27). Safe. -/
  | poseidonFetchOutside
  /-- Raised by a V = 5 order that reads P.FPS: P.N at or above P_FPS_SIZE (spec/20_memory.md R71). Safe. -/
  | poseidonFpsOutside
  /-- Raised by the fetch: H.pc at or above 2^H_AW (spec/60_exceptions.md R400; no state of the invariant reaches it). Safe. -/
  | hermesFetchOutside
  /-- Raised by an access to H.V at or above H_STORE_SIZE (spec/20_memory.md R75). Safe. -/
  | hermesStoreOutside
  /-- Raised by an access to A.S at or above A_STORE_SIZE (spec/20_memory.md R80). Safe. -/
  | argusStoreOutside
  /-- Raised by a step of a halted Argus: the run has ended (spec/10_state.md R60, spec/70_reset_and_hazards.md R448). Safe. -/
  | argusHalted
deriving DecidableEq, Repr

/-- Why the spec gives an order no meaning: the outcome `refuse` of spec/00_scope.md R17. All are safe: the run is no run of the
model beyond them. -/
inductive Refusal where
  /-- An instruction that has no meaning in the model yet. Safe. -/
  | notModelled (mnemonic : String)
  /-- Raised by every step of an Apollo: `refuse("apollo: no data in source")` (spec/43_apollo.md R261). Safe. -/
  | apolloNoData
  /-- Raised by every Poseidon order in Outer mode (spec/60_exceptions.md R404). Safe. -/
  | poseidonOuterMode
  /-- Raised by Poseidon Groups 1 to 7 (spec/30_encoding.md R112). Safe. -/
  | poseidonGroupOutlineOnly (group : BitVec 3)
  /-- Raised by P031, P033, P035, P037 (spec/30_encoding.md R110). Safe. -/
  | poseidon03WOddNotListed
  /-- Raised by W = 4 or 5 with a field equal to 3 (spec/40_poseidon_group0.md R143). Safe. -/
  | collateAtAddress3
  /-- Raised by a field equal to 3 outside V = 7 (R143). Safe. -/
  | address3OutsideV7
  /-- Raised by V = 7 with no field equal to 3 (R143, spec/30_encoding.md R111). Safe. -/
  | poseidon07WNoAddress3
  /-- Raised by A = 2 (R143). Safe. -/
  | address2AsDestination
  /-- Raised by B or C = 2 outside V = 5 (R143). Safe. -/
  | address2OutsideV5
  /-- Raised by a field outside P_PLAIN (R143). Safe. -/
  | addressNotPlain
  /-- Raised by a V = 5 order that reads P.FPS where P_W is not 24 (spec/20_memory.md R71). Safe. -/
  | fpsWordIsNotPW
  /-- Raised by the fetch of a word that nothing has loaded: `refuse("read of unwritten state")` of
  spec/70_reset_and_hazards.md R440 (log 6). Safe. -/
  | unwrittenOrder
  /-- Raised by the Hermes tables the source omits (spec/30_encoding.md R113). Safe. -/
  | hermesTableOmitted
  /-- Raised by H0.11.4, H0.10.5, H0.11.5 (spec/42_hermes_f0.md R239, R240). Safe. -/
  | hermesBlankCell
  /-- Raised by H0.10.4 (R238). Safe. -/
  | hermesWaitNotDescribed
  /-- Raised by a Hermes sum that does not fit, where H_OVERFLOW is refuse (R201). Safe. -/
  | hermesSumOverflows
  /-- Raised by the Argus codes printed "-------" (spec/30_encoding.md R114). Safe. -/
  | argusUnassigned (function : BitVec 6)
  /-- Raised by a long operand at effective address 0 (spec/20_memory.md R85). Safe. -/
  | longOperandAtAddress0
  /-- Raised by Argus 21 without A_MULROUND (spec/45_argus_muldiv.md R312). Safe. -/
  | argusRoundingNotDefined
  /-- Raised by Argus 24, 25, 26 without A_DIV (R314 to R316). Safe. -/
  | argusDivisionNotDefined (function : BitVec 6)
  /-- Raised by Argus 30, 31, 32 without A_IOREG (spec/46_argus_input.md R330). Safe. -/
  | argusInputNotPlaced
  /-- Raised by Argus 33 to 37 (R334). Safe. -/
  | argusInstallationInput (function : BitVec 6)
  /-- Raised by Argus 52, 53 with X other than 4 and 7 (spec/47_argus_shift.md R344, R345). Safe. -/
  | argusShiftNeedsX4or7 (function : BitVec 6)
  /-- Raised by Argus 54 with X = 4, 5, 7 (R346). Safe. -/
  | argusCountOverlapsP
  /-- Raised by Argus 55 with X = 4, 5, 6, 7 (R347). Safe. -/
  | argusCountOverlapsPQ
  /-- Raised by Argus 54, 55 on a zero value (R349). Safe. -/
  | argusNormaliseOfZero
deriving DecidableEq, Repr

/-- What an operation answers: a value, or a stop. -/
abbrev Result (α : Type) := Host.Outcome α Fault Refusal

/-- The Poseidon at reset: every register at a value log 3 names, pc at P_ENTRY, Inner mode (log 4), nothing punched, nothing
loaded or written (spec/70_reset_and_hazards.md R440, R441). -/
def PState.reset (c : Config) : PState where
  r := Vector.replicate 32 0
  n := 0
  l := 0
  lambda := 0
  mu := 0
  alpha := 0
  kappa := 0
  crNeg := false
  crZero := false
  ovr := false
  q := List.replicate c.pNQ false
  pc := c.pEntry
  mode := .inner
  punch := []
  fps := []
  ds := []
  history := []

/-- The Hermes at reset (R440, R441, log 3). -/
def HState.reset (c : Config) : HState where
  v := []
  n1 := 0
  pc := c.hEntry
  prog := []
  history := []

/-- The Argus at reset, not halted (R440, R441, log 3). -/
def AState.reset (c : Config) : AState where
  x := Vector.replicate 6 0
  q1 := 0
  q2 := 0
  ovr := false
  mod := Vector.replicate 3 0
  link := 0
  pc := c.aEntry
  halted := false
  s := []
  reg20 := 0
  reg22 := 0
  prog := []
  history := []

/-- The machines right after reset, in the configuration `Config.standard`. The spec gives no reset value for any hardware state
(R440); the values are named in log 1 to log 4. -/
def State.reset : State where
  running := Config.resetMachine
  cfg := Config.standard
  p := PState.reset Config.standard
  h := HState.reset Config.standard
  a := AState.reset Config.standard

end Sys2Proof.Machine
end

