-- ==== Sys2Proof/Machine/Flags.lean ====
section
/-! DEFINITION. What the flags record: overflow and sign tests (spec/00_scope.md R16), the Poseidon condition register
(spec/40_poseidon_group0.md R142) and the Argus OVR (spec/44_argus_arith.md R271, spec/47_argus_shift.md R341). -/

namespace Sys2Proof.Machine

/-- The integer lies in -2^(w-1) to 2^(w-1) - 1 (spec/00_scope.md R16). -/
def fitsSigned (w : Nat) (t : Int) : Bool :=
  decide (-((2 ^ (w - 1) : Nat) : Int) ≤ t ∧ t < ((2 ^ (w - 1) : Nat) : Int))

/-- `ovf_add_w(a, b)` (R16). -/
def ovfAdd (w : Nat) (a b : Nat) : Bool := !fitsSigned w (sval w a + sval w b)

/-- `ovf_sub_w(a, b)` (R16). -/
def ovfSub (w : Nat) (a b : Nat) : Bool := !fitsSigned w (sval w a - sval w b)

/-- `ovf_neg_w(a)`: `s(a) = -2^(w-1)` (R16). -/
def ovfNeg (w : Nat) (a : Nat) : Bool := sval w a = -((2 ^ (w - 1) : Nat) : Int)

/-- `lost` of `sha_w(v, k)`: a shift up whose result is not the true product; a shift down loses nothing
(spec/47_argus_shift.md R341). -/
def shiftLoses (w : Nat) (v : Nat) (k : Int) : Bool :=
  decide (0 ≤ k) && decide (sval w (shiftArith w v k) ≠ sval w v * ((2 ^ k.toNat : Nat) : Int))

/-- The result is negative. -/
def isNegative (w : Nat) (r : Nat) : Bool := decide (sval w r < 0)

/-- The result is positive. -/
def isPositive (w : Nat) (r : Nat) : Bool := decide (0 < sval w r)

/-- The record a sum or a difference leaves: P.CR from the wrapped result, P.OVR set on overflow and otherwise left alone
(spec/40_poseidon_group0.md R142). -/
def PState.recordSum (w : Nat) (r : Nat) (overflow : Bool) (p : PState) : PState :=
  { p with crNeg := isNegative w r, crZero := decide (r = 0), ovr := p.ovr || overflow }

/-- The record a logical order leaves: P.CR.neg and P.CR.zero are draws, P.OVR stays (spec/40_poseidon_group0.md R142). -/
def PState.recordLogical (p : PState) : PState :=
  { p with
    crNeg := Config.drawnCrNeg p.history.length
    crZero := Config.drawnCrZero p.history.length
    history := p.history ++
      [.conditionRecord (Config.drawnCrNeg p.history.length) (Config.drawnCrZero p.history.length)] }

/-- A.OVR set by an overflow and otherwise left alone (spec/44_argus_arith.md R271). -/
def AState.noteOverflow (overflow : Bool) (a : AState) : AState := { a with ovr := a.ovr || overflow }

end Sys2Proof.Machine
end

