-- ==== Sys2Proof/Machine/Ops.lean ====
section
/-! DEFINITION. The named operations every meaning is made of: results, stores, registers, program counters, the event
history, and the Argus interruption and its return. -/

namespace Sys2Proof.Machine

/-! ### Results -/

/-- Goes on with a value, or stops where the first part stopped. A step that stops has written nothing
(spec/60_exceptions.md R406). -/
def Result.andThen {α β : Type} (r : Result α) (f : α → Result β) : Result β :=
  match r with
  | .next x => f x
  | .fault e => .fault e
  | .refused e => .refused e

/-! ### Stores (spec/00_scope.md R15) -/

/-- The word at an address, if anything has written it. -/
def Cells.read? {α : Type} (m : Cells α) (e : Nat) : Option α :=
  match m with
  | [] => none
  | (k, v) :: rest => if k = e then some v else Cells.read? rest e

/-- The store with `v` at address `e`; addresses stay strictly rising. -/
def Cells.write {α : Type} (m : Cells α) (e : Nat) (v : α) : Cells α :=
  match m with
  | [] => [(e, v)]
  | (k, u) :: rest =>
    if e < k then (e, v) :: (k, u) :: rest
    else if e = k then (e, v) :: rest
    else (k, u) :: Cells.write rest e v

/-- The one form a store may have: addresses strictly rising. -/
abbrev Cells.sorted {α : Type} (m : Cells α) : Prop := m.Pairwise fun c d => c.1 < d.1

/-- A data store of `size` words of `w` bits: strictly rising addresses below `size`, words below 2^w. -/
abbrev Memory.wf (w size : Nat) (m : Memory) : Prop :=
  m.Pairwise (fun c d => c.1 < d.1) ∧ ∀ c ∈ m, c.1 < size ∧ c.2 < 2 ^ w

/-- A program store of `size` orders: strictly rising addresses below `size`. -/
abbrev Program.wf (size : Nat) (m : Program) : Prop :=
  m.Pairwise (fun c d => c.1 < d.1) ∧ ∀ c ∈ m, c.1 < size

/-- An operand and the draws that reading it made. -/
structure Read where
  val : Nat
  events : List Event
deriving DecidableEq, Repr

/-- The contents of P.FPS at P.N as an operand: the order loaded there, or a draw where nothing has been loaded
(spec/20_memory.md R71, spec/70_reset_and_hazards.md R440). -/
def PState.fpsWord (p : PState) : Read :=
  match Cells.read? p.fps p.n.toNat with
  | some w => ⟨w.toNat, []⟩
  | none =>
    ⟨(Config.drawnFpsWord p.history.length).toNat,
      [.unwrittenWord p.n.toNat (Config.drawnFpsWord p.history.length).toNat]⟩

/-- A read of P.FPS at P.N: refused unless words are 24 bits, stuck outside the store (spec/20_memory.md R71). DESIGN CHOICE
(log 21): where both hold the refusal comes first, an order that no rule gives (spec/40_poseidon_group0.md R159 lists them the
other way round). -/
def PState.readFps (c : Config) (p : PState) : Result Read :=
  if c.pW ≠ 24 then .refused .fpsWordIsNotPW
  else if c.pFpsSize ≤ p.n.toNat then .fault .poseidonFpsOutside
  else .next p.fpsWord

/-- The contents of H.V at an address, as the operand at position `which` of the order: the word written there, or a draw where
nothing has been written (spec/20_memory.md R75, spec/70_reset_and_hazards.md R440). -/
def HState.word (c : Config) (h : HState) (which e : Nat) : Read :=
  match Cells.read? h.v e with
  | some w => ⟨w, []⟩
  | none =>
    ⟨Config.drawnHermesWord h.history.length which % 2 ^ c.hW,
      [.unwrittenWord e (Config.drawnHermesWord h.history.length which % 2 ^ c.hW)]⟩

/-- A read of H.V, stuck outside the store (spec/20_memory.md R75). -/
def HState.readV (c : Config) (h : HState) (which e : Nat) : Result Read :=
  if c.hStoreSize ≤ e then .fault .hermesStoreOutside else .next (h.word c which e)

/-- H.V[e] <- v (spec/20_memory.md R75). -/
def HState.putV (e : Nat) (v : Nat) (h : HState) : HState := { h with v := Cells.write h.v e v }

/-- A write to H.V, stuck outside the store (spec/20_memory.md R75). -/
def HState.writeV (c : Config) (h : HState) (e : Nat) (v : Nat) : Result HState :=
  if c.hStoreSize ≤ e then .fault .hermesStoreOutside else .next (h.putV e v)

/-- The contents of one short word of A.S, as the operand at position `which` of the order: the word written there, or a draw where
nothing has been written (spec/20_memory.md R80, spec/70_reset_and_hazards.md R440). -/
def AState.short (c : Config) (a : AState) (which e : Nat) : Read :=
  match Cells.read? a.s e with
  | some w => ⟨w, []⟩
  | none =>
    ⟨Config.drawnArgusWord a.history.length which % 2 ^ c.aW,
      [.unwrittenWord e (Config.drawnArgusWord a.history.length which % 2 ^ c.aW)]⟩

/-- A.S[e] <- v, one short word (spec/20_memory.md R80). -/
def AState.putS (e : Nat) (v : Nat) (a : AState) : AState := { a with s := Cells.write a.s e v }

/-! ### Registers -/

/-- P.R[k] (spec/10_state.md R20). -/
def PState.readR (p : PState) (k : Field5) : Nat := p.r[k.toNat]'(k.isLt)

/-- P.R[k] <- v (spec/10_state.md R20). -/
def PState.writeR (p : PState) (k : Field5) (v : Nat) : PState := { p with r := p.r.set k.toNat v k.isLt }

/-- P.Q[10] (spec/10_state.md R26). -/
def PState.q10 (p : PState) : Bool := p.q.getD 10 false

/-- Count in N (spec/40_poseidon_group0.md R165). -/
def PState.countN (p : PState) : PState := { p with n := p.n + (if p.q10 then 2 else 1) }

/-- lambda is negative: bit 12 is 1 (spec/40_poseidon_group0.md R167). -/
def PState.lambdaNegative (p : PState) : Bool := p.lambda.msb

/-- The count of lambda, made whether or not the jump is (spec/40_poseidon_group0.md R167). -/
def PState.countLambda (p : PState) : PState := { p with lambda := p.lambda + 1 }

/-- One character appended to P.punch (spec/40_poseidon_group0.md R162). -/
def PState.punchOut (p : PState) (ch : BitVec 5) : PState := { p with punch := p.punch ++ [ch] }

/-- Draws recorded in the event history (spec/70_reset_and_hazards.md R440). -/
def PState.record (p : PState) (es : List Event) : PState := { p with history := p.history ++ es }

/-- Draws recorded in the event history (spec/70_reset_and_hazards.md R440). -/
def HState.record (h : HState) (es : List Event) : HState := { h with history := h.history ++ es }

/-- Draws recorded in the event history (spec/70_reset_and_hazards.md R440). -/
def AState.record (a : AState) (es : List Event) : AState := { a with history := a.history ++ es }

/-- Two words side by side, each of `w` bits; which is the more significant is A_LONG_ORDER (spec/10_state.md R51, R52,
spec/20_memory.md R81). -/
def pairValue (o : LongOrder) (w : Nat) (first second : Nat) : Nat :=
  match o with
  | .firstNamed => first * 2 ^ w + second
  | .secondNamed => second * 2 ^ w + first

/-- The first named word of a pair of `w`-bit words. -/
def pairFirst (o : LongOrder) (w : Nat) (v : Nat) : Nat :=
  match o with
  | .firstNamed => v / 2 ^ w
  | .secondNamed => v % 2 ^ w

/-- The second named word of a pair of `w`-bit words. -/
def pairSecond (o : LongOrder) (w : Nat) (v : Nat) : Nat :=
  match o with
  | .firstNamed => v % 2 ^ w
  | .secondNamed => v / 2 ^ w

/-- `pval()`: P, made of accumulators 4 and 5 (spec/10_state.md R51, R53). -/
def AState.pval (c : Config) (a : AState) : Nat := pairValue c.aLongOrder c.aW a.x[4] a.x[5]

/-- Q, made of Q1 and Q2 (spec/10_state.md R51). -/
def AState.qval (c : Config) (a : AState) : Nat := pairValue c.aLongOrder c.aW a.q1 a.q2

/-- `pqval()`: P and Q as one number (spec/10_state.md R52, R53). -/
def AState.pqval (c : Config) (a : AState) : Nat := pairValue c.aLongOrder (2 * c.aW) (a.pval c) (a.qval c)

/-- `setp(v)` (spec/10_state.md R53). -/
def AState.setp (c : Config) (v : Nat) (a : AState) : AState :=
  { a with x := (a.x.set 4 (pairFirst c.aLongOrder c.aW v)).set 5 (pairSecond c.aLongOrder c.aW v) }

/-- Q <- v (spec/10_state.md R51). -/
def AState.setq (c : Config) (v : Nat) (a : AState) : AState :=
  { a with q1 := pairFirst c.aLongOrder c.aW v, q2 := pairSecond c.aLongOrder c.aW v }

/-- `setpq(v)` (spec/10_state.md R53). -/
def AState.setpq (c : Config) (v : Nat) (a : AState) : AState :=
  (a.setp c (pairFirst c.aLongOrder (2 * c.aW) v)).setq c (pairSecond c.aLongOrder (2 * c.aW) v)

/-- X names a long accumulator, 6 or 7 (spec/10_state.md R51). -/
def isLong (x : BitVec 3) : Bool := 6 ≤ x.toNat

/-- `w(X)`: the bits in accumulator X (spec/10_state.md R53). -/
def accWidth (c : Config) (x : BitVec 3) : Nat := if isLong x then 2 * c.aW else c.aW

/-- `xval(X)` (spec/10_state.md R53). -/
def AState.xval (c : Config) (a : AState) (x : BitVec 3) : Nat :=
  if hx : x.toNat < 6 then a.x[x.toNat]
  else if x = 6#3 then a.qval c
  else a.pval c

/-- `setx(X, v)` (spec/10_state.md R53). -/
def AState.setx (c : Config) (x : BitVec 3) (v : Nat) (a : AState) : AState :=
  if hx : x.toNat < 6 then { a with x := a.x.set x.toNat v }
  else if x = 6#3 then a.setq c v
  else a.setp c v

/-- The dedicated register a value of M identifies, if any (spec/10_state.md R55). -/
def ModifierMap.register (mm : ModifierMap) (m : BitVec 2) : Option (Fin 3) :=
  match m.toNat with
  | 0 => mm.m0
  | 1 => mm.m1
  | 2 => mm.m2
  | _ => mm.m3

/-- m: the contents of the modifier M identifies, 0 where it identifies none (spec/20_memory.md R86). -/
def AState.modifier (c : Config) (a : AState) (m : BitVec 2) : Addr13 :=
  match ModifierMap.register c.aModMap m with
  | none => 0
  | some i => a.mod[i]

/-- m' = m + k modulo 2^13; a write is discarded where M identifies no register (spec/10_state.md R55,
spec/48_argus_jump.md R367). -/
def AState.countModifier (c : Config) (m : BitVec 2) (k : Addr13) (a : AState) : AState :=
  match ModifierMap.register c.aModMap m with
  | none => a
  | some i => { a with mod := a.mod.set i (a.mod[i] + k) }

/-! ### Program counters -/

/-- A jump of the Hermes to an address of H_AW bits (spec/10_state.md R42). -/
def HState.jumpTo (target : Nat) (h : HState) : HState := { h with pc := target }

/-- The address of the next order in sequence, modulo 2^H_AW (spec/10_state.md R42). -/
def HState.nextPc (c : Config) (h : HState) : Nat := trunc c.hAW ((h.pc : Int) + 1)

/-- The next order in sequence (spec/10_state.md R42). -/
def HState.advance (c : Config) (h : HState) : HState := h.jumpTo (h.nextPc c)

/-- H.N1 <- an address of H_AW bits (spec/20_memory.md R77). -/
def HState.setN1 (v : Nat) (h : HState) : HState := { h with n1 := v }

/-- A jump of the Argus to an absolute address (spec/10_state.md R58). -/
def AState.jumpTo (target : Addr13) (a : AState) : AState := { a with pc := target }

/-- The next order in sequence, modulo 2^13 (spec/10_state.md R58). -/
def AState.advance (a : AState) : AState := a.jumpTo (a.pc + 1)

/-- The target when the condition holds, else the next order (spec/48_argus_jump.md R360). -/
def AState.jumpIf (cond : Bool) (target : Addr13) (a : AState) : AState := if cond then a.jumpTo target else a.advance

/-! ### The Argus interruption (spec/60_exceptions.md R401 to R403) -/

end Sys2Proof.Machine

namespace Sys2Proof

/-- `A_INT.enabled`: the predicate that the configuration A_INT supplies, a free one (spec/60_exceptions.md R402; log 17). -/
opaque Config.interruptEnabled : Machine.AState → Bool

end Sys2Proof

namespace Sys2Proof.Machine

/-- Interruption entry: the link is the address of the first order not yet obeyed, and nothing else is saved or changed
(spec/60_exceptions.md R402). -/
def AState.takeInterruption (entry : Addr13) (a : AState) : AState := { a with link := a.pc, pc := entry }

/-- Return from an interruption: the program counter is restored and nothing else (spec/60_exceptions.md R403). -/
def AState.returnFromInterruption (a : AState) : AState := { a with pc := a.link }

/-- An interruption is possible before the next order, and where it enters: A_INT is supplied and its predicate holds
(spec/60_exceptions.md R402). -/
def AState.interruptionEntry (c : Config) (a : AState) : Option Addr13 :=
  match c.aInt with
  | none => none
  | some entry => if Config.interruptEnabled a then some entry else none

/-- The drawn choice between interruption entry and the ordinary step (spec/60_exceptions.md R402, R406). -/
def AState.interruptionTaken (a : AState) : Bool := Config.drawnInterruption a.history.length

/-! ### The parts of the state -/

/-- The state with another Poseidon. -/
def State.withP (s : State) (p : PState) : State := { s with p := p }

/-- The state with another Hermes. -/
def State.withH (s : State) (h : HState) : State := { s with h := h }

/-- The state with another Argus. -/
def State.withA (s : State) (a : AState) : State := { s with a := a }

/-- An operation of the Poseidon, as one of the state: the other machines and the configuration stay (spec/00_scope.md R19). -/
def State.onPoseidon (f : Config → PState → Result PState) (s : State) : Result State :=
  Result.andThen (f s.cfg s.p) fun p => .next (s.withP p)

/-- An operation of the Hermes, as one of the state (spec/00_scope.md R19). -/
def State.onHermes (f : Config → HState → Result HState) (s : State) : Result State :=
  Result.andThen (f s.cfg s.h) fun h => .next (s.withH h)

/-- An operation of the Argus, as one of the state (spec/00_scope.md R19). -/
def State.onArgus (f : Config → AState → Result AState) (s : State) : Result State :=
  Result.andThen (f s.cfg s.a) fun a => .next (s.withA a)

end Sys2Proof.Machine
end

