-- ==== Sys2Proof/Machine/Operands.lean ====
section
/-! DEFINITION. Every operand form: Poseidon sources, destinations and functions of W (spec/40_poseidon_group0.md R140 to R143,
R161 to R166), Hermes operands, sums and jump targets (spec/42_hermes_f0.md R200 to R202), Argus effective N, operands and functions
(spec/20_memory.md R85 to R87, spec/44_argus_arith.md R270, R271, spec/45_argus_muldiv.md R310). -/

namespace Sys2Proof.Machine

/-! ### Poseidon -/

/-- The eight values of V (spec/30_encoding.md R107). -/
inductive PVariant where
  /-- V = 0. -/
  | plain
  /-- V = 1: count in N. -/
  | countN
  /-- V = 2: count in N, count and test lambda. -/
  | countBoth
  /-- V = 3: conditional on C.R. -/
  | conditional
  /-- V = 4: return to Outer mode. -/
  | returnOuter
  /-- V = 5: fast program store read or fast jump. -/
  | fast
  /-- V = 6: count and test lambda. -/
  | countLambda
  /-- V = 7: tape punch, tape reader, Handswitches. -/
  | device
deriving DecidableEq, Repr

/-- The order counts in N (spec/40_poseidon_group0.md R140 step 5). -/
def PVariant.countsN (v : PVariant) : Bool := v = .countN || v = .countBoth

/-- The order counts and tests lambda (R140 step 6). -/
def PVariant.countsLambda (v : PVariant) : Bool := v = .countBoth || v = .countLambda

/-- The eight functions of W (spec/40_poseidon_group0.md R141). -/
inductive PFunction where
  /-- W = 0: b + c. -/
  | add
  /-- W = 1: b - c. -/
  | sub
  /-- W = 2: b # c. -/
  | xor
  /-- W = 3: b # NOTc. -/
  | xorNot
  /-- W = 4: b + c with collate at address 3. -/
  | addCollate
  /-- W = 5: b - c with collate at address 3. -/
  | subCollate
  /-- W = 6: b & c. -/
  | and
  /-- W = 7: b & NOTc. -/
  | andNot
deriving DecidableEq, Repr

/-- `f_W(b, c)` at width w (spec/40_poseidon_group0.md R141). -/
def PFunction.apply (w : Nat) (f : PFunction) (b c : Nat) : Nat :=
  match f with
  | .add | .addCollate => addW w b c
  | .sub | .subCollate => subW w b c
  | .xor => xorW b c
  | .xorNot => xorW b (notW w c)
  | .and => andW b c
  | .andNot => andW b (notW w c)

/-- The function uses the adder (spec/40_poseidon_group0.md R141). -/
def PFunction.usesAdder (f : PFunction) : Bool :=
  match f with
  | .add | .sub | .addCollate | .subCollate => true
  | .xor | .xorNot | .and | .andNot => false

/-- The true sum or difference does not fit (spec/40_poseidon_group0.md R142). -/
def PFunction.overflows (w : Nat) (f : PFunction) (b c : Nat) : Bool :=
  match f with
  | .add | .addCollate => ovfAdd w b c
  | .sub | .subCollate => ovfSub w b c
  | .xor | .xorNot | .and | .andNot => false

/-- W = 4 or 5 (spec/40_poseidon_group0.md R143). -/
def PFunction.collates (f : PFunction) : Bool := f = .addCollate || f = .subCollate

/-- P.CR and P.OVR after an order of function `f` with result `r` (spec/40_poseidon_group0.md R142). -/
def PState.recordResult (c : Config) (f : PFunction) (bv cv r : Nat) (p : PState) : PState :=
  if f.usesAdder then p.recordSum c.pW r (f.overflows c.pW bv cv) else p.recordLogical

/-- Address k is an ordinary cell (spec/20_memory.md R74). -/
def isPlain (c : Config) (k : Field5) : Bool := c.pPlain.getLsbD k.toNat

/-- Field value k passes the last test of R143: 2 and 3 are judged by the tests before it. -/
def plainOrSpecial (c : Config) (k : Field5) : Bool := k = 2#5 || k = 3#5 || isPlain c k

/-- Step 1 of R140: the tests of R143 top to bottom; `collate` is W = 4 or 5. -/
def addressCheck (c : Config) (v : PVariant) (collate : Bool) (fa fb fc : Field5) : Option Refusal :=
  let has3 : Bool := fa = 3#5 || fb = 3#5 || fc = 3#5
  if collate && has3 then some .collateAtAddress3
  else if v ≠ .device && has3 then some .address3OutsideV7
  else if v = .device && !has3 then some .poseidon07WNoAddress3
  else if fa = 2#5 then some .address2AsDestination
  else if v ≠ .fast && (fb = 2#5 || fc = 2#5) then some .address2OutsideV5
  else if plainOrSpecial c fa && plainOrSpecial c fb && plainOrSpecial c fc then none
  else some .addressNotPlain

/-- The two operands of a Poseidon order and the draws that reading them made. -/
structure PSources where
  b : Nat
  c : Nat
  events : List Event
deriving DecidableEq, Repr

/-- A tape character on digits 0 to 4 of Highway B, the other digits 0 (spec/40_poseidon_group0.md R163, R166). -/
def tapeWord (c : Config) (ch : BitVec 5) : Nat :=
  if c.pDigit0Lsb then ch.toNat else ch.toNat * 2 ^ (c.pW - 5)

/-- Digits 0 to 4 of Highway A (spec/40_poseidon_group0.md R162, R166). -/
def punchedCharacter (c : Config) (r : Nat) : BitVec 5 :=
  BitVec.ofNat 5 (if c.pDigit0Lsb then r else r / 2 ^ (c.pW - 5))

/-- The next tape character (spec/40_poseidon_group0.md R163). -/
def PState.nextCharacter (p : PState) : BitVec 5 := Config.drawnTapeCharacter p.history.length

/-- The setting of the Handswitches, P_W bits (spec/40_poseidon_group0.md R164). -/
def PState.handswitches (c : Config) (p : PState) : Nat := Config.drawnHandswitches p.history.length % 2 ^ c.pW

/-- Step 2 of R140: both sources, read on the state before the order. V = 5 with B or C equal to 2 reads
P.FPS once, for both fields (R159; DEDUCED, log 12); V = 7 reads the tape for B = 3 and the Handswitches for C = 3 (R161). The draw
for B is recorded before the draw for C (log 22). -/
def PState.sources (c : Config) (v : PVariant) (fb fc : Field5) (p : PState) : Result PSources :=
  match v with
  | .fast =>
    if fb = 2#5 ∨ fc = 2#5 then
      Result.andThen (p.readFps c) fun w =>
        .next ⟨if fb = 2#5 then w.val else p.readR fb, if fc = 2#5 then w.val else p.readR fc, w.events⟩
    else .next ⟨p.readR fb, p.readR fc, []⟩
  | .device =>
    .next ⟨if fb = 3#5 then tapeWord c p.nextCharacter else p.readR fb,
      if fc = 3#5 then p.handswitches c else p.readR fc,
      (if fb = 3#5 then [.tapeCharacter p.nextCharacter] else []) ++
        (if fc = 3#5 then [.handswitches (p.handswitches c)] else [])⟩
  | _ => .next ⟨p.readR fb, p.readR fc, []⟩

/-- The result goes to destination A: to the tape punch for A = 3 of a V = 7 order, else to P.R[A]
(spec/40_poseidon_group0.md R161, R162). -/
def PState.deliver (c : Config) (v : PVariant) (fa : Field5) (r : Nat) (p : PState) : PState :=
  if v = .device ∧ fa = 3#5 then p.punchOut (punchedCharacter c r) else p.writeR fa r

/-! ### Hermes -/

/-- Where the third operand comes from (spec/42_hermes_f0.md R203). -/
inductive HThird where
  /-- VC. -/
  | store
  /-- The literal C. -/
  | literal
deriving DecidableEq, Repr

/-- The third operand: VC, or the literal C widened by H_C_EXT (spec/42_hermes_f0.md R200). -/
def HState.third (c : Config) (h : HState) (t : HThird) (fc : Field5) : Result Read :=
  match t with
  | .store => h.readV c 2 fc.toNat
  | .literal => .next ⟨extend5 c.hCExt c.hW fc, []⟩

/-- The true sum of two words fits H_W bits (spec/42_hermes_f0.md R201). -/
def sumFits (c : Config) (u v : Nat) : Bool := fitsSigned c.hW (sval c.hW u + sval c.hW v)

/-- The sum of two words, modulo 2^H_W (spec/42_hermes_f0.md R201). -/
def sumWord (c : Config) (u v : Nat) : Nat := trunc c.hW (sval c.hW u + sval c.hW v)

/-- `sumH(u, v)`: a sum that does not fit is refused or wraps, as H_OVERFLOW says (spec/42_hermes_f0.md R201). -/
def sumH (c : Config) (u v : Nat) : Result Nat :=
  if sumFits c u v then .next (sumWord c u v)
  else
    match c.hOverflow with
    | .refuse => .refused .hermesSumOverflows
    | .wrap => .next (sumWord c u v)

/-- The test of a jump cell, on the signed result (spec/42_hermes_f0.md R201). -/
inductive HTest where
  /-- `> 0`. -/
  | positive
  /-- `< 0`. -/
  | negative
deriving DecidableEq, Repr

/-- The relation holds of the result (spec/42_hermes_f0.md R201). -/
def HTest.holds (w : Nat) (t : HTest) (r : Nat) : Bool :=
  match t with
  | .positive => isPositive w r
  | .negative => isNegative w r

/-- `target2`: A places, signed, from the base H_REL_BASE names (spec/42_hermes_f0.md R202). -/
def HState.relativeTarget (c : Config) (h : HState) (fa : Field5) : Nat :=
  match c.hRelBase with
  | .self => trunc c.hAW ((h.pc : Int) + fa.toInt)
  | .next => trunc c.hAW ((h.pc : Int) + 1 + fa.toInt)

/-- A word of the store as an address of H_AW bits, its low H_AW bits (spec/20_memory.md R77, spec/42_hermes_f0.md R202).
DESIGN CHOICE (log 24): where H_AW exceeds H_W the spec does not say how the word is widened; its unsigned value is taken. -/
def toHermesAddress (c : Config) (v : Nat) : Nat := v % 2 ^ c.hAW

/-- `target1`: the low H_AW bits of VA (spec/42_hermes_f0.md R202). -/
def HState.target1 (c : Config) (h : HState) (fa : Field5) : Result Read :=
  Result.andThen (h.readV c 0 fa.toNat) fun va => .next ⟨toHermesAddress c va.val, va.events⟩

/-- The address `N1 + A` (spec/20_memory.md R77). -/
def HState.offsetAddress (c : Config) (h : HState) (fa : Field5) : Nat :=
  (h.n1 + extend5 c.hAoffExt c.hAW fa) % 2 ^ c.hAW

/-! ### Argus -/

/-- The effective N (spec/20_memory.md R86). -/
def AState.effectiveN (c : Config) (a : AState) (n : Addr13) (m : BitVec 2) : Addr13 := n + a.modifier c m

/-- The contents of the store operand n at `ne`: a short word, or for a long X the words at Ne-1 and Ne, whose
draws are recorded in that order (spec/20_memory.md R81, R85; log 22). -/
def AState.storeOperand (c : Config) (a : AState) (x : BitVec 3) (ne : Addr13) : Read :=
  if isLong x then
    ⟨pairValue c.aLongOrder c.aW (a.short c 0 (ne.toNat - 1)).val (a.short c 1 ne.toNat).val,
      (a.short c 0 (ne.toNat - 1)).events ++ (a.short c 1 ne.toNat).events⟩
  else a.short c 1 ne.toNat

/-- `nval(X, Ne)`: refused for a long operand at 0, then stuck outside the store (spec/20_memory.md R80, R85,
spec/60_exceptions.md R406). -/
def AState.nval (c : Config) (a : AState) (x : BitVec 3) (ne : Addr13) : Result Read :=
  if isLong x ∧ ne = 0 then .refused .longOperandAtAddress0
  else if c.aStoreSize ≤ ne.toNat then .fault .argusStoreOutside
  else .next (a.storeOperand c x ne)

/-- n <- v: a short word, or for a long X the words at Ne-1 and Ne (spec/20_memory.md R81, R85). -/
def AState.putOperand (c : Config) (x : BitVec 3) (ne : Addr13) (v : Nat) (a : AState) : AState :=
  if isLong x then
    (a.putS (ne.toNat - 1) (pairFirst c.aLongOrder c.aW v)).putS ne.toNat (pairSecond c.aLongOrder c.aW v)
  else a.putS ne.toNat v

/-- `setn(X, Ne, v)`: refused for a long operand at 0, then stuck outside the store (spec/20_memory.md R80, R85,
spec/60_exceptions.md R406). -/
def AState.setn (c : Config) (x : BitVec 3) (ne : Addr13) (v : Nat) (a : AState) : Result AState :=
  if isLong x ∧ ne = 0 then .refused .longOperandAtAddress0
  else if c.aStoreSize ≤ ne.toNat then .fault .argusStoreOutside
  else .next (a.putOperand c x ne v)

/-- N as a constant, widened or reduced to w(X) bits (spec/20_memory.md R87). -/
def constantOperand (c : Config) (x : BitVec 3) (ne : Addr13) : Nat := extend13 c.aConstExt (accWidth c x) ne

/-- The seven operations that groups 0F, 1F and 4F share. For 0F and 4F `u` is x and `v` is n or N; for 1F `u` is n and `v` is x
(spec/44_argus_arith.md R272 to R278, R280 to R286, R290 to R296). -/
inductive AFunction where
  /-- 0: v. -/
  | copy
  /-- 1: u + v. -/
  | add
  /-- 2: - v. -/
  | negate
  /-- 3: u - v. -/
  | sub
  /-- 4: v - u. -/
  | subReverse
  /-- 5: u & v. -/
  | and
  /-- 6: u # v. -/
  | xor
deriving DecidableEq, Repr

/-- The result at width w (spec/44_argus_arith.md R270). -/
def AFunction.apply (w : Nat) (f : AFunction) (u v : Nat) : Nat :=
  match f with
  | .copy => v
  | .add => addW w u v
  | .negate => negW w v
  | .sub => subW w u v
  | .subReverse => subW w v u
  | .and => andW u v
  | .xor => xorW u v

/-- The true result does not fit (spec/44_argus_arith.md R271). -/
def AFunction.overflows (w : Nat) (f : AFunction) (u v : Nat) : Bool :=
  match f with
  | .add => ovfAdd w u v
  | .negate => ovfNeg w v
  | .sub => ovfSub w u v
  | .subReverse => ovfSub w v u
  | .copy | .and | .xor => false

/-- The operation reads its first operand: functions 10 and 12 do not read n (spec/44_argus_arith.md R280, R282). -/
def AFunction.readsFirst (f : AFunction) : Bool :=
  match f with
  | .copy | .negate => false
  | .add | .sub | .subReverse | .and | .xor => true

/-- The count of places, signed (spec/47_argus_shift.md R340). -/
def AState.places (c : Config) (a : AState) (n : Addr13) (m : BitVec 2) : Int := (a.effectiveN c n m).toInt

end Sys2Proof.Machine
end

