-- ==== Sys2Proof/Machine/ArgusOrder.lean ====
section
/-! DEFINITION. The shapes of the Argus functions, shared by the meanings of Sys2Proof/Machine/Argus.lean: transfers and arithmetic
(spec/44_argus_arith.md R270), multiplication and division (spec/45_argus_muldiv.md R310), input (spec/46_argus_input.md R330), shifts
(spec/47_argus_shift.md R340 to R349) and jumps (spec/48_argus_jump.md R360). -/

namespace Sys2Proof.Machine

/-! ### Transfer, add, subtract, logic -/

/-- Group 0F: x' from x and n (spec/44_argus_arith.md R270, R272 to R278). -/
def AState.storeToAcc (f : AFunction) (n : Addr13) (x : BitVec 3) (m : BitVec 2) (c : Config) (a : AState) : Result AState :=
  Result.andThen (a.nval c x (a.effectiveN c n m)) fun o =>
    .next
      (((a.setx c x (f.apply (accWidth c x) (a.xval c x) o.val)).noteOverflow
        (f.overflows (accWidth c x) (a.xval c x) o.val)).record o.events).advance

/-- The store operand of group 1F; functions 10 and 12 do not read it (spec/44_argus_arith.md R280, R282). -/
def AState.firstOperand (c : Config) (a : AState) (f : AFunction) (x : BitVec 3) (ne : Addr13) : Result Read :=
  if f.readsFirst then a.nval c x ne else .next ⟨0, []⟩

/-- Group 1F: n' from n and x (spec/44_argus_arith.md R270, R280 to R286). -/
def AState.accToStore (f : AFunction) (n : Addr13) (x : BitVec 3) (m : BitVec 2) (c : Config) (a : AState) : Result AState :=
  Result.andThen (a.firstOperand c f x (a.effectiveN c n m)) fun o =>
    Result.andThen
      (a.setn c x (a.effectiveN c n m) (f.apply (accWidth c x) o.val (a.xval c x))) fun a1 =>
        .next ((a1.noteOverflow (f.overflows (accWidth c x) o.val (a.xval c x))).record o.events).advance

/-- Group 4F: x' from x and the constant N (spec/44_argus_arith.md R270, R290 to R296). -/
def AState.constantToAcc (f : AFunction) (n : Addr13) (x : BitVec 3) (m : BitVec 2) (c : Config) (a : AState) : Result AState :=
  .next
    (((a.setx c x (f.apply (accWidth c x) (a.xval c x) (constantOperand c x (a.effectiveN c n m)))).noteOverflow
      (f.overflows (accWidth c x) (a.xval c x) (constantOperand c x (a.effectiveN c n m)))).advance)

/-! ### Multiplication and division -/

/-- The result goes to P for a short X and to (pq) for a long one (spec/45_argus_muldiv.md R310). -/
def AState.setProduct (c : Config) (x : BitVec 3) (v : Nat) (a : AState) : AState :=
  if isLong x then a.setpq c v else a.setp c v

/-- The bits of P, or of (pq) for a long X (spec/45_argus_muldiv.md R310). -/
def productWidth (c : Config) (x : BitVec 3) : Nat := if isLong x then 4 * c.aW else 2 * c.aW

/-- The product of n and x: exact, signed, at double width, unless A_MUL supplies another (spec/45_argus_muldiv.md R311). -/
def productOf (c : Config) (x : BitVec 3) (nv xv : Nat) : Nat :=
  match c.aMul with
  | .integer => trunc (productWidth c x) (sval (accWidth c x) nv * sval (accWidth c x) xv)
  | .supplied => Config.product c.aW x nv xv % 2 ^ productWidth c x

/-- A function of n, x and the state before it, whose value goes to P or (pq); OVR is unchanged (spec/45_argus_muldiv.md R310
to R315). -/
def AState.toProduct (value : AState → Nat → Nat → Nat) (n : Addr13) (x : BitVec 3) (m : BitVec 2) (c : Config) (a : AState) :
    Result AState :=
  Result.andThen (a.nval c x (a.effectiveN c n m)) fun o =>
    .next (((a.setProduct c x (value a o.val (a.xval c x))).record o.events).advance)

/-- Function 20 (spec/45_argus_muldiv.md R311). -/
def AState.multiply (n : Addr13) (x : BitVec 3) (m : BitVec 2) (c : Config) (a : AState) : Result AState :=
  AState.toProduct (fun _ nv xv => productOf c x nv xv) n x m c a

/-- Function 21: refused unless A_MULROUND is supplied (spec/45_argus_muldiv.md R312). -/
def AState.multiplyRounded (n : Addr13) (x : BitVec 3) (m : BitVec 2) (c : Config) (a : AState) : Result AState :=
  if c.aMulRound then
    AState.toProduct (fun _ nv xv => Config.roundedProduct c.aW x nv xv % 2 ^ productWidth c x) n x m c a
  else .refused .argusRoundingNotDefined

/-- Function 24: refused unless A_DIV is supplied (spec/45_argus_muldiv.md R314). -/
def AState.divide (n : Addr13) (x : BitVec 3) (m : BitVec 2) (c : Config) (a : AState) : Result AState :=
  if c.aDiv then
    AState.toProduct (fun b nv xv => Config.quotient c.aW x nv xv (b.pqval c) % 2 ^ productWidth c x) n x m c a
  else .refused (.argusDivisionNotDefined 0o24#6)

/-- Function 25: refused unless A_DIV is supplied (spec/45_argus_muldiv.md R315). -/
def AState.divideRounded (n : Addr13) (x : BitVec 3) (m : BitVec 2) (c : Config) (a : AState) : Result AState :=
  if c.aDiv then
    AState.toProduct (fun b nv xv => Config.roundedQuotient c.aW x nv xv (b.pqval c) % 2 ^ productWidth c x) n x m c a
  else .refused (.argusDivisionNotDefined 0o25#6)

/-- P2 <- 0 after a short division, Q <- 0 after a long one (spec/45_argus_muldiv.md R316). -/
def AState.clearRemainder (x : BitVec 3) (a : AState) : AState :=
  if isLong x then { a with q1 := 0, q2 := 0 } else { a with x := a.x.set 5 0 }

/-- Function 26: as 25, then P2 or Q zero; refused unless A_DIV is supplied (spec/45_argus_muldiv.md R316). -/
def AState.divideRoundedAlone (n : Addr13) (x : BitVec 3) (m : BitVec 2) (c : Config) (a : AState) : Result AState :=
  if c.aDiv then Result.andThen (a.divideRounded n x m c) fun a1 => .next (a1.clearRemainder x)
  else .refused (.argusDivisionNotDefined 0o26#6)

/-! ### Input -/

/-- A word delivered to the place that stands for Register 20 or 22; `own` is the register's own cell
(spec/46_argus_input.md R330). -/
def AState.deliverTo (c : Config) (place : IoPlace) (own : Nat → AState → AState) (v : Nat) (a : AState) : Result AState :=
  match place with
  | .accumulator i => .next { a with x := a.x.set i v }
  | .shortAddress e => if c.aStoreSize ≤ e.toNat then .fault .argusStoreOutside else .next (a.putS e.toNat v)
  | .ownCell => .next (own v a)

/-- Register 20 in a cell of its own (spec/10_state.md R59). -/
def AState.setReg20 (v : Nat) (a : AState) : AState := { a with reg20 := v }

/-- Register 22 in a cell of its own (spec/10_state.md R59). -/
def AState.setReg22 (v : Nat) (a : AState) : AState := { a with reg22 := v }

/-- The word an input order delivers, A_W bits (spec/46_argus_input.md R330). -/
def AState.inputWord (c : Config) (a : AState) : Nat := Config.drawnInput a.history.length % 2 ^ c.aW

/-- Functions 30 to 32: a drawn word to the register's place, the selector and the function recorded; refused unless A_IOREG is
supplied (spec/46_argus_input.md R330). -/
def AState.selectInput (function : BitVec 6) (place : IoRegisters → IoPlace) (own : Nat → AState → AState) (n : Addr13)
    (m : BitVec 2) (c : Config) (a : AState) : Result AState :=
  match c.aIoReg with
  | none => .refused .argusInputNotPlaced
  | some regs =>
    Result.andThen (a.deliverTo c (place regs) own (a.inputWord c)) fun a1 =>
      .next (a1.record [.input function (a.effectiveN c n m) (a.inputWord c)]).advance

/-! ### Shifts and normalising -/

/-- Function 50 (spec/47_argus_shift.md R342). -/
def AState.shiftAccArith (n : Addr13) (x : BitVec 3) (m : BitVec 2) (c : Config) (a : AState) : Result AState :=
  .next ((a.setx c x (shiftArith (accWidth c x) (a.xval c x) (a.places c n m))).noteOverflow
    (shiftLoses (accWidth c x) (a.xval c x) (a.places c n m))).advance

/-- Function 51 (spec/47_argus_shift.md R343). -/
def AState.shiftAccLogical (n : Addr13) (x : BitVec 3) (m : BitVec 2) (c : Config) (a : AState) : Result AState :=
  .next (a.setx c x (shiftLogical (accWidth c x) (a.xval c x) (a.places c n m))).advance

/-- Function 52: P for X = 4, (pq) for X = 7 (spec/47_argus_shift.md R344). -/
def AState.shiftDoubleArith (n : Addr13) (x : BitVec 3) (m : BitVec 2) (c : Config) (a : AState) : Result AState :=
  if x = 4#3 then
    .next ((a.setp c (shiftArith (2 * c.aW) (a.pval c) (a.places c n m))).noteOverflow
      (shiftLoses (2 * c.aW) (a.pval c) (a.places c n m))).advance
  else if x = 7#3 then
    .next ((a.setpq c (shiftArith (4 * c.aW) (a.pqval c) (a.places c n m))).noteOverflow
      (shiftLoses (4 * c.aW) (a.pqval c) (a.places c n m))).advance
  else .refused (.argusShiftNeedsX4or7 0o52#6)

/-- Function 53: P for X = 4, (pq) for X = 7 (spec/47_argus_shift.md R345). -/
def AState.shiftDoubleLogical (n : Addr13) (x : BitVec 3) (m : BitVec 2) (c : Config) (a : AState) : Result AState :=
  if x = 4#3 then .next (a.setp c (shiftLogical (2 * c.aW) (a.pval c) (a.places c n m))).advance
  else if x = 7#3 then .next (a.setpq c (shiftLogical (4 * c.aW) (a.pqval c) (a.places c n m))).advance
  else .refused (.argusShiftNeedsX4or7 0o53#6)

/-- Function 54 (spec/47_argus_shift.md R346, R349). -/
def AState.normaliseP (x : BitVec 3) (c : Config) (a : AState) : Result AState :=
  if x = 4#3 ∨ x = 5#3 ∨ x = 7#3 then .refused .argusCountOverlapsP
  else if a.pval c = 0 then .refused .argusNormaliseOfZero
  else
    .next ((a.setp c (normaliseValue (2 * c.aW) (a.pval c))).setx c x
      (normaliseCount (2 * c.aW) (a.pval c) % 2 ^ accWidth c x)).advance

/-- Function 55 (spec/47_argus_shift.md R347, R349). -/
def AState.normalisePQ (x : BitVec 3) (c : Config) (a : AState) : Result AState :=
  if x = 4#3 ∨ x = 5#3 ∨ x = 6#3 ∨ x = 7#3 then .refused .argusCountOverlapsPQ
  else if a.pqval c = 0 then .refused .argusNormaliseOfZero
  else
    .next ((a.setpq c (normaliseValue (4 * c.aW) (a.pqval c))).setx c x
      (normaliseCount (4 * c.aW) (a.pqval c) % 2 ^ c.aW)).advance

/-! ### Jumps -/

/-- Functions 60 to 63: a jump on a property of x (spec/48_argus_jump.md R361 to R364). -/
def AState.jumpOnAcc (cond : Nat → Nat → Bool) (n : Addr13) (x : BitVec 3) (m : BitVec 2) (c : Config) (a : AState) :
    Result AState :=
  .next (a.jumpIf (cond (accWidth c x) (a.xval c x)) (a.effectiveN c n m))

/-- Functions 64 and 65: a jump where OVR is as asked; OVR is cleared in either case (spec/48_argus_jump.md R365, R366). -/
def AState.jumpOnOverflow (wanted : Bool) (n : Addr13) (m : BitVec 2) (c : Config) (a : AState) : Result AState :=
  .next { a.jumpIf (a.ovr == wanted) (a.effectiveN c n m) with ovr := false }

/-- Functions 66 and 67: x' = x - k, m' = m + k, jump to the unmodified N if x' is not zero (spec/48_argus_jump.md R367,
R368). -/
def AState.countingJump (k : Nat) (n : Addr13) (x : BitVec 3) (m : BitVec 2) (c : Config) (a : AState) : Result AState :=
  .next (((a.setx c x (subW (accWidth c x) (a.xval c x) k)).countModifier c m (BitVec.ofNat 13 k)).jumpIf
    (decide (subW (accWidth c x) (a.xval c x) k ≠ 0)) n)

/-- Function 70: the link is the address of the order itself (spec/48_argus_jump.md R369). -/
def AState.jumpStoringLink (n : Addr13) (m : BitVec 2) (c : Config) (a : AState) : Result AState :=
  .next { a with link := a.pc, pc := a.effectiveN c n m }

/-- The drawn state of the typewriter at this test (spec/48_argus_jump.md R372). -/
def AState.typewriterBusy (a : AState) : Bool := Config.drawnTypewriterBusy a.history.length

/-- Functions 73 and 74: a jump where the typewriter is, or is not, busy (spec/48_argus_jump.md R372, R373). -/
def AState.jumpOnTypewriter (wanted : Bool) (n : Addr13) (m : BitVec 2) (c : Config) (a : AState) : Result AState :=
  .next ((a.record [.typewriter a.typewriterBusy]).jumpIf (a.typewriterBusy == wanted) (a.effectiveN c n m))

/-- Function 77 (spec/48_argus_jump.md R375). -/
def AState.stop (a : AState) : AState := { a.advance with halted := true }

end Sys2Proof.Machine
end

