-- ==== Sys2Proof/Machine/Argus.lean ====
section
/-! DEFINITION. The Argus functions 00 to 77 (spec/44_argus_arith.md to spec/48_argus_jump.md, R270 to R375). -/

namespace Sys2Proof.Machine

/-- A00 (R272). -/
def execA00 (n : Addr13) (x : BitVec 3) (m : BitVec 2) (s : State) : Result State := s.onArgus (AState.storeToAcc .copy n x m)

/-- A01 (R273). -/
def execA01 (n : Addr13) (x : BitVec 3) (m : BitVec 2) (s : State) : Result State := s.onArgus (AState.storeToAcc .add n x m)

/-- A02 (R274). -/
def execA02 (n : Addr13) (x : BitVec 3) (m : BitVec 2) (s : State) : Result State := s.onArgus (AState.storeToAcc .negate n x m)

/-- A03 (R275). -/
def execA03 (n : Addr13) (x : BitVec 3) (m : BitVec 2) (s : State) : Result State := s.onArgus (AState.storeToAcc .sub n x m)

/-- A04 (R276). -/
def execA04 (n : Addr13) (x : BitVec 3) (m : BitVec 2) (s : State) : Result State := s.onArgus (AState.storeToAcc .subReverse n x m)

/-- A05 (R277). -/
def execA05 (n : Addr13) (x : BitVec 3) (m : BitVec 2) (s : State) : Result State := s.onArgus (AState.storeToAcc .and n x m)

/-- A06 (R278). -/
def execA06 (n : Addr13) (x : BitVec 3) (m : BitVec 2) (s : State) : Result State := s.onArgus (AState.storeToAcc .xor n x m)

/-- A07: no function is listed (R279, R114). -/
def execA07 (_n : Addr13) (_x : BitVec 3) (_m : BitVec 2) (_s : State) : Result State := .refused (.argusUnassigned 0o07#6)

/-- A10 (R280). -/
def execA10 (n : Addr13) (x : BitVec 3) (m : BitVec 2) (s : State) : Result State := s.onArgus (AState.accToStore .copy n x m)

/-- A11 (R281). -/
def execA11 (n : Addr13) (x : BitVec 3) (m : BitVec 2) (s : State) : Result State := s.onArgus (AState.accToStore .add n x m)

/-- A12 (R282). -/
def execA12 (n : Addr13) (x : BitVec 3) (m : BitVec 2) (s : State) : Result State := s.onArgus (AState.accToStore .negate n x m)

/-- A13 (R283). -/
def execA13 (n : Addr13) (x : BitVec 3) (m : BitVec 2) (s : State) : Result State := s.onArgus (AState.accToStore .sub n x m)

/-- A14 (R284). -/
def execA14 (n : Addr13) (x : BitVec 3) (m : BitVec 2) (s : State) : Result State := s.onArgus (AState.accToStore .subReverse n x m)

/-- A15 (R285). -/
def execA15 (n : Addr13) (x : BitVec 3) (m : BitVec 2) (s : State) : Result State := s.onArgus (AState.accToStore .and n x m)

/-- A16 (R286). -/
def execA16 (n : Addr13) (x : BitVec 3) (m : BitVec 2) (s : State) : Result State := s.onArgus (AState.accToStore .xor n x m)

/-- A17: no function is listed (R287, R114). -/
def execA17 (_n : Addr13) (_x : BitVec 3) (_m : BitVec 2) (_s : State) : Result State := .refused (.argusUnassigned 0o17#6)

/-- A20 (R311). -/
def execA20 (n : Addr13) (x : BitVec 3) (m : BitVec 2) (s : State) : Result State := s.onArgus (AState.multiply n x m)

/-- A21 (R312). -/
def execA21 (n : Addr13) (x : BitVec 3) (m : BitVec 2) (s : State) : Result State := s.onArgus (AState.multiplyRounded n x m)

/-- A22: no function is listed (R313, R114). -/
def execA22 (_n : Addr13) (_x : BitVec 3) (_m : BitVec 2) (_s : State) : Result State := .refused (.argusUnassigned 0o22#6)

/-- A23: no function is listed (R313, R114). -/
def execA23 (_n : Addr13) (_x : BitVec 3) (_m : BitVec 2) (_s : State) : Result State := .refused (.argusUnassigned 0o23#6)

/-- A24 (R314). -/
def execA24 (n : Addr13) (x : BitVec 3) (m : BitVec 2) (s : State) : Result State := s.onArgus (AState.divide n x m)

/-- A25 (R315). -/
def execA25 (n : Addr13) (x : BitVec 3) (m : BitVec 2) (s : State) : Result State := s.onArgus (AState.divideRounded n x m)

/-- A26 (R316). -/
def execA26 (n : Addr13) (x : BitVec 3) (m : BitVec 2) (s : State) : Result State := s.onArgus (AState.divideRoundedAlone n x m)

/-- A27: no function is listed (R317, R114). -/
def execA27 (_n : Addr13) (_x : BitVec 3) (_m : BitVec 2) (_s : State) : Result State := .refused (.argusUnassigned 0o27#6)

/-- A30 (R331). -/
def execA30 (n : Addr13) (_x : BitVec 3) (m : BitVec 2) (s : State) : Result State := s.onArgus (AState.selectInput 0o30#6 IoRegisters.reg20 AState.setReg20 n m)

/-- A31 (R332). -/
def execA31 (n : Addr13) (_x : BitVec 3) (m : BitVec 2) (s : State) : Result State := s.onArgus (AState.selectInput 0o31#6 IoRegisters.reg20 AState.setReg20 n m)

/-- A32 (R333). -/
def execA32 (n : Addr13) (_x : BitVec 3) (m : BitVec 2) (s : State) : Result State := s.onArgus (AState.selectInput 0o32#6 IoRegisters.reg22 AState.setReg22 n m)

/-- A33: an installation's own input (R334). -/
def execA33 (_n : Addr13) (_x : BitVec 3) (_m : BitVec 2) (_s : State) : Result State := .refused (.argusInstallationInput 0o33#6)

/-- A34: an installation's own input (R334). -/
def execA34 (_n : Addr13) (_x : BitVec 3) (_m : BitVec 2) (_s : State) : Result State := .refused (.argusInstallationInput 0o34#6)

/-- A35: an installation's own input (R334). -/
def execA35 (_n : Addr13) (_x : BitVec 3) (_m : BitVec 2) (_s : State) : Result State := .refused (.argusInstallationInput 0o35#6)

/-- A36: an installation's own input (R334). -/
def execA36 (_n : Addr13) (_x : BitVec 3) (_m : BitVec 2) (_s : State) : Result State := .refused (.argusInstallationInput 0o36#6)

/-- A37: an installation's own input (R334). -/
def execA37 (_n : Addr13) (_x : BitVec 3) (_m : BitVec 2) (_s : State) : Result State := .refused (.argusInstallationInput 0o37#6)

/-- A40 (R290). -/
def execA40 (n : Addr13) (x : BitVec 3) (m : BitVec 2) (s : State) : Result State := s.onArgus (AState.constantToAcc .copy n x m)

/-- A41 (R291). -/
def execA41 (n : Addr13) (x : BitVec 3) (m : BitVec 2) (s : State) : Result State := s.onArgus (AState.constantToAcc .add n x m)

/-- A42 (R292). -/
def execA42 (n : Addr13) (x : BitVec 3) (m : BitVec 2) (s : State) : Result State := s.onArgus (AState.constantToAcc .negate n x m)

/-- A43 (R293). -/
def execA43 (n : Addr13) (x : BitVec 3) (m : BitVec 2) (s : State) : Result State := s.onArgus (AState.constantToAcc .sub n x m)

/-- A44 (R294). -/
def execA44 (n : Addr13) (x : BitVec 3) (m : BitVec 2) (s : State) : Result State := s.onArgus (AState.constantToAcc .subReverse n x m)

/-- A45 (R295). -/
def execA45 (n : Addr13) (x : BitVec 3) (m : BitVec 2) (s : State) : Result State := s.onArgus (AState.constantToAcc .and n x m)

/-- A46 (R296). -/
def execA46 (n : Addr13) (x : BitVec 3) (m : BitVec 2) (s : State) : Result State := s.onArgus (AState.constantToAcc .xor n x m)

/-- A47: no function is listed (R297, R114). -/
def execA47 (_n : Addr13) (_x : BitVec 3) (_m : BitVec 2) (_s : State) : Result State := .refused (.argusUnassigned 0o47#6)

/-- A50 (R342). -/
def execA50 (n : Addr13) (x : BitVec 3) (m : BitVec 2) (s : State) : Result State := s.onArgus (AState.shiftAccArith n x m)

/-- A51 (R343). -/
def execA51 (n : Addr13) (x : BitVec 3) (m : BitVec 2) (s : State) : Result State := s.onArgus (AState.shiftAccLogical n x m)

/-- A52 (R344). -/
def execA52 (n : Addr13) (x : BitVec 3) (m : BitVec 2) (s : State) : Result State := s.onArgus (AState.shiftDoubleArith n x m)

/-- A53 (R345). -/
def execA53 (n : Addr13) (x : BitVec 3) (m : BitVec 2) (s : State) : Result State := s.onArgus (AState.shiftDoubleLogical n x m)

/-- A54 (R346). -/
def execA54 (_n : Addr13) (x : BitVec 3) (_m : BitVec 2) (s : State) : Result State := s.onArgus (AState.normaliseP x)

/-- A55 (R347). -/
def execA55 (_n : Addr13) (x : BitVec 3) (_m : BitVec 2) (s : State) : Result State := s.onArgus (AState.normalisePQ x)

/-- A56: no function is listed (R348, R114). -/
def execA56 (_n : Addr13) (_x : BitVec 3) (_m : BitVec 2) (_s : State) : Result State := .refused (.argusUnassigned 0o56#6)

/-- A57: no function is listed (R348, R114). -/
def execA57 (_n : Addr13) (_x : BitVec 3) (_m : BitVec 2) (_s : State) : Result State := .refused (.argusUnassigned 0o57#6)

/-- A60 (R361). -/
def execA60 (n : Addr13) (x : BitVec 3) (m : BitVec 2) (s : State) : Result State := s.onArgus (AState.jumpOnAcc (fun _ v => decide (v = 0)) n x m)

/-- A61 (R362). -/
def execA61 (n : Addr13) (x : BitVec 3) (m : BitVec 2) (s : State) : Result State := s.onArgus (AState.jumpOnAcc (fun _ v => decide (v ≠ 0)) n x m)

/-- A62 (R363). -/
def execA62 (n : Addr13) (x : BitVec 3) (m : BitVec 2) (s : State) : Result State := s.onArgus (AState.jumpOnAcc (fun w v => !isNegative w v) n x m)

/-- A63 (R364). -/
def execA63 (n : Addr13) (x : BitVec 3) (m : BitVec 2) (s : State) : Result State := s.onArgus (AState.jumpOnAcc isNegative n x m)

/-- A64 (R365). -/
def execA64 (n : Addr13) (_x : BitVec 3) (m : BitVec 2) (s : State) : Result State := s.onArgus (AState.jumpOnOverflow false n m)

/-- A65 (R366). -/
def execA65 (n : Addr13) (_x : BitVec 3) (m : BitVec 2) (s : State) : Result State := s.onArgus (AState.jumpOnOverflow true n m)

/-- A66 (R367). -/
def execA66 (n : Addr13) (x : BitVec 3) (m : BitVec 2) (s : State) : Result State := s.onArgus (AState.countingJump 2 n x m)

/-- A67 (R368). -/
def execA67 (n : Addr13) (x : BitVec 3) (m : BitVec 2) (s : State) : Result State := s.onArgus (AState.countingJump 1 n x m)

/-- A70 (R369). -/
def execA70 (n : Addr13) (_x : BitVec 3) (m : BitVec 2) (s : State) : Result State := s.onArgus (AState.jumpStoringLink n m)

/-- A71 (R370). -/
def execA71 (_n : Addr13) (_x : BitVec 3) (_m : BitVec 2) (s : State) : Result State := s.onArgus (fun _ a => .next (a.jumpTo (a.link + 1)))

/-- A72 (R371). -/
def execA72 (_n : Addr13) (_x : BitVec 3) (_m : BitVec 2) (s : State) : Result State := s.onArgus (fun _ a => .next a.returnFromInterruption)

/-- A73 (R372). -/
def execA73 (n : Addr13) (_x : BitVec 3) (m : BitVec 2) (s : State) : Result State := s.onArgus (AState.jumpOnTypewriter true n m)

/-- A74 (R373). -/
def execA74 (n : Addr13) (_x : BitVec 3) (m : BitVec 2) (s : State) : Result State := s.onArgus (AState.jumpOnTypewriter false n m)

/-- A75: no function is listed (R374, R114). -/
def execA75 (_n : Addr13) (_x : BitVec 3) (_m : BitVec 2) (_s : State) : Result State := .refused (.argusUnassigned 0o75#6)

/-- A76: no function is listed (R374, R114). -/
def execA76 (_n : Addr13) (_x : BitVec 3) (_m : BitVec 2) (_s : State) : Result State := .refused (.argusUnassigned 0o76#6)

/-- A77 (R375). -/
def execA77 (_n : Addr13) (_x : BitVec 3) (_m : BitVec 2) (s : State) : Result State := s.onArgus (fun _ a => .next a.stop)

end Sys2Proof.Machine
end

