-- ==== Sys2Proof/Machine/HermesOrder.lean ====
section
/-! DEFINITION. The shapes of the Hermes cells (spec/42_hermes_f0.md R200 to R203), shared by the meanings of
Sys2Proof/Machine/Hermes.lean. The operand positions are 0 for VA, 1 for VB, 2 for VC and 3 for VN1. DESIGN CHOICE (log 22): the
draws of one order enter the event history as its rule's pseudocode reads the words, but for H0.10.3; no rule states an order. -/

namespace Sys2Proof.Machine

/-- Where a jump cell jumps (spec/42_hermes_f0.md R202). -/
inductive HJump where
  /-- "← 1": to the address in VA. -/
  | throughVA
  /-- "← 2": relative, A places. -/
  | relative
deriving DecidableEq, Repr

/-- The jump's target and the draws that reading it made (spec/42_hermes_f0.md R202). -/
def HState.target (c : Config) (h : HState) (j : HJump) (fa : Field5) : Result Read :=
  match j with
  | .throughVA => h.target1 c fa
  | .relative => .next ⟨h.relativeTarget c fa, []⟩

/-- A sum and the draws that reading its operands made, the first operand's before the second's (log 22). -/
def HState.sumOf (c : Config) (u v : Result Read) : Result Read :=
  Result.andThen u fun x =>
    Result.andThen v fun y =>
      Result.andThen (sumH c x.val y.val) fun r => .next ⟨r, x.events ++ y.events⟩

/-- A jump cell that stores nothing: `← k, VB + third > 0` or `< 0` (spec/42_hermes_f0.md R210 to R217). VA is read only when
the jump is made, and its draw follows those of the sum (log 22). -/
def HState.testJump (j : HJump) (t : HThird) (test : HTest) (fa fb fc : Field5) (c : Config) (h : HState) : Result HState :=
  Result.andThen (HState.sumOf c (h.readV c 1 fb.toNat) (h.third c t fc)) fun r =>
    if test.holds c.hW r.val then
      Result.andThen (h.target c j fa) fun d => .next ((h.record (r.events ++ d.events)).jumpTo d.val)
    else .next ((h.record r.events).advance c)

/-- A jump cell that stores the sum back: `← k, VB = VB + third > 0` or `< 0`; the jump address is read before the store
(spec/42_hermes_f0.md R218 to R225), and its draw precedes those of the sum (log 22). -/
def HState.storeJump (j : HJump) (t : HThird) (test : HTest) (fa fb fc : Field5) (c : Config) (h : HState) : Result HState :=
  Result.andThen (h.target c j fa) fun d =>
    Result.andThen (HState.sumOf c (h.readV c 1 fb.toNat) (h.third c t fc)) fun r =>
      Result.andThen (h.writeV c fb.toNat r.val) fun h1 =>
        .next ((h1.record (d.events ++ r.events)).jumpTo (if test.holds c.hW r.val then d.val else h.nextPc c))

/-- What a sum cell does to N1 besides (spec/42_hermes_f0.md R242 to R245). -/
inductive N1Step where
  | keep
  | up
  | down
deriving DecidableEq, Repr

/-- N1 stepped modulo 2^H_AW (spec/20_memory.md R77). -/
def HState.stepN1 (c : Config) (k : N1Step) (h : HState) : HState :=
  match k with
  | .keep => h
  | .up => h.setN1 (trunc c.hAW ((h.n1 : Int) + 1))
  | .down => h.setN1 (trunc c.hAW ((h.n1 : Int) - 1))

/-- `VA = VB + third`, then the step of N1 (spec/42_hermes_f0.md R230, R231, R242 to R245). -/
def HState.sumToVA (t : HThird) (k : N1Step) (fa fb fc : Field5) (c : Config) (h : HState) : Result HState :=
  Result.andThen (HState.sumOf c (h.readV c 1 fb.toNat) (h.third c t fc)) fun r =>
    Result.andThen (h.writeV c fa.toNat r.val) fun h1 => .next (((h1.stepN1 c k).record r.events).advance c)

/-- `N1 = VA, VN1 = VB + VC` (spec/42_hermes_f0.md R232). The draws are recorded VB, VC, VA (log 22). -/
def HState.sumThroughVA (fa fb fc : Field5) (c : Config) (h : HState) : Result HState :=
  Result.andThen (HState.sumOf c (h.readV c 1 fb.toNat) (h.readV c 2 fc.toNat)) fun r =>
    Result.andThen (h.target1 c fa) fun d =>
      Result.andThen (h.writeV c d.val r.val) fun h1 =>
        .next (((h1.setN1 d.val).record (r.events ++ d.events)).advance c)

/-- `V[N1 + A] = VB + VC` (spec/42_hermes_f0.md R233). -/
def HState.sumToOffset (fa fb fc : Field5) (c : Config) (h : HState) : Result HState :=
  Result.andThen (HState.sumOf c (h.readV c 1 fb.toNat) (h.readV c 2 fc.toNat)) fun r =>
    Result.andThen (h.writeV c (h.offsetAddress c fa) r.val) fun h1 => .next ((h1.record r.events).advance c)

/-- A word read as an address for N1, and the location it names read as an operand (spec/42_hermes_f0.md R234, R236). -/
structure Indirect where
  n1 : Nat
  read : Read
deriving DecidableEq, Repr

/-- N1 from the low H_AW bits of a word of the store, then VN1 (spec/42_hermes_f0.md R234, R236). -/
def HState.readThrough (c : Config) (h : HState) (which : Nat) (f : Field5) : Result Indirect :=
  Result.andThen (h.readV c which f.toNat) fun w =>
    Result.andThen (h.readV c 3 (toHermesAddress c w.val)) fun v =>
      .next ⟨toHermesAddress c w.val, ⟨v.val, w.events ++ v.events⟩⟩

/-- `N1 = VB, VA = VN1 + VC` (spec/42_hermes_f0.md R234). The draws are recorded VB, VN1, VC (log 22). -/
def HState.loadThroughVB (fa fb fc : Field5) (c : Config) (h : HState) : Result HState :=
  Result.andThen (h.readThrough c 1 fb) fun i =>
    Result.andThen (HState.sumOf c (.next i.read) (h.readV c 2 fc.toNat)) fun r =>
      Result.andThen (h.writeV c fa.toNat r.val) fun h1 => .next (((h1.setN1 i.n1).record r.events).advance c)

/-- `N1 = VC, VA = VB + VN1` (spec/42_hermes_f0.md R236). DESIGN CHOICE (log 22): the draws are recorded VB, VC, VN1, though the
rule reads VC first; each is keyed by its operand position, so no value depends on it. -/
def HState.loadThroughVC (fa fb fc : Field5) (c : Config) (h : HState) : Result HState :=
  Result.andThen (h.readThrough c 2 fc) fun i =>
    Result.andThen (HState.sumOf c (h.readV c 1 fb.toNat) (.next i.read)) fun r =>
      Result.andThen (h.writeV c fa.toNat r.val) fun h1 => .next (((h1.setN1 i.n1).record r.events).advance c)

/-- `VA = V[N1 = B] + VC` and `VA = VB + V[N1 = C]`: the sum VB + VC with N1 left holding field `f`
(spec/42_hermes_f0.md R235, R237). -/
def HState.sumNaming (f fa fb fc : Field5) (c : Config) (h : HState) : Result HState :=
  Result.andThen (HState.sumOf c (h.readV c 1 fb.toNat) (h.readV c 2 fc.toNat)) fun r =>
    Result.andThen (h.writeV c fa.toNat r.val) fun h1 =>
      .next (((h1.setN1 (f.toNat % 2 ^ c.hAW)).record r.events).advance c)

end Sys2Proof.Machine
end

