-- ==== Sys2Proof/Machine/Hermes.lean ====
section
/-! DEFINITION. The Hermes orders: the cells of the table F = 0 (spec/42_hermes_f0.md R210 to R245) and the orders the spec refuses
(spec/30_encoding.md R113). -/

namespace Sys2Proof.Machine

/-- H0.00.0 (R210). -/
def execH0_00_0 (a b c : Field5) (s : State) : Result State := s.onHermes (HState.testJump .throughVA .store .positive a b c)

/-- H0.01.0 (R211). -/
def execH0_01_0 (a b c : Field5) (s : State) : Result State := s.onHermes (HState.testJump .throughVA .literal .positive a b c)

/-- H0.00.1 (R212). -/
def execH0_00_1 (a b c : Field5) (s : State) : Result State := s.onHermes (HState.testJump .throughVA .store .negative a b c)

/-- H0.01.1 (R213). -/
def execH0_01_1 (a b c : Field5) (s : State) : Result State := s.onHermes (HState.testJump .throughVA .literal .negative a b c)

/-- H0.00.2 (R214). -/
def execH0_00_2 (a b c : Field5) (s : State) : Result State := s.onHermes (HState.testJump .relative .store .positive a b c)

/-- H0.01.2 (R215). -/
def execH0_01_2 (a b c : Field5) (s : State) : Result State := s.onHermes (HState.testJump .relative .literal .positive a b c)

/-- H0.00.3 (R216). -/
def execH0_00_3 (a b c : Field5) (s : State) : Result State := s.onHermes (HState.testJump .relative .store .negative a b c)

/-- H0.01.3 (R217). -/
def execH0_01_3 (a b c : Field5) (s : State) : Result State := s.onHermes (HState.testJump .relative .literal .negative a b c)

/-- H0.00.4 (R218). -/
def execH0_00_4 (a b c : Field5) (s : State) : Result State := s.onHermes (HState.storeJump .throughVA .store .positive a b c)

/-- H0.01.4 (R219). -/
def execH0_01_4 (a b c : Field5) (s : State) : Result State := s.onHermes (HState.storeJump .throughVA .literal .positive a b c)

/-- H0.00.5 (R220). -/
def execH0_00_5 (a b c : Field5) (s : State) : Result State := s.onHermes (HState.storeJump .throughVA .store .negative a b c)

/-- H0.01.5 (R221). -/
def execH0_01_5 (a b c : Field5) (s : State) : Result State := s.onHermes (HState.storeJump .throughVA .literal .negative a b c)

/-- H0.00.6 (R222). -/
def execH0_00_6 (a b c : Field5) (s : State) : Result State := s.onHermes (HState.storeJump .relative .store .positive a b c)

/-- H0.01.6 (R223). -/
def execH0_01_6 (a b c : Field5) (s : State) : Result State := s.onHermes (HState.storeJump .relative .literal .positive a b c)

/-- H0.00.7 (R224). -/
def execH0_00_7 (a b c : Field5) (s : State) : Result State := s.onHermes (HState.storeJump .relative .store .negative a b c)

/-- H0.01.7 (R225). -/
def execH0_01_7 (a b c : Field5) (s : State) : Result State := s.onHermes (HState.storeJump .relative .literal .negative a b c)

/-- H0.10.0 (R230). -/
def execH0_10_0 (a b c : Field5) (s : State) : Result State := s.onHermes (HState.sumToVA .store .keep a b c)

/-- H0.11.0 (R231). -/
def execH0_11_0 (a b c : Field5) (s : State) : Result State := s.onHermes (HState.sumToVA .literal .keep a b c)

/-- H0.10.1 (R232). -/
def execH0_10_1 (a b c : Field5) (s : State) : Result State := s.onHermes (HState.sumThroughVA a b c)

/-- H0.11.1 (R233). -/
def execH0_11_1 (a b c : Field5) (s : State) : Result State := s.onHermes (HState.sumToOffset a b c)

/-- H0.10.2 (R234). -/
def execH0_10_2 (a b c : Field5) (s : State) : Result State := s.onHermes (HState.loadThroughVB a b c)

/-- H0.11.2 (R235). -/
def execH0_11_2 (a b c : Field5) (s : State) : Result State := s.onHermes (HState.sumNaming b a b c)

/-- H0.10.3 (R236). -/
def execH0_10_3 (a b c : Field5) (s : State) : Result State := s.onHermes (HState.loadThroughVC a b c)

/-- H0.11.3 (R237). -/
def execH0_11_3 (a b c : Field5) (s : State) : Result State := s.onHermes (HState.sumNaming c a b c)

/-- H0.10.4: WAIT, not described (R238). -/
def execH0_10_4 (_a _b _c : Field5) (_s : State) : Result State := .refused .hermesWaitNotDescribed

/-- H0.11.4: a blank cell (R239). -/
def execH0_11_4 (_a _b _c : Field5) (_s : State) : Result State := .refused .hermesBlankCell

/-- H0.10.5: a blank cell (R240). -/
def execH0_10_5 (_a _b _c : Field5) (_s : State) : Result State := .refused .hermesBlankCell

/-- H0.11.5: a blank cell (R240). -/
def execH0_11_5 (_a _b _c : Field5) (_s : State) : Result State := .refused .hermesBlankCell

/-- H0.10.6 (R242). -/
def execH0_10_6 (a b c : Field5) (s : State) : Result State := s.onHermes (HState.sumToVA .store .up a b c)

/-- H0.11.6 (R243). -/
def execH0_11_6 (a b c : Field5) (s : State) : Result State := s.onHermes (HState.sumToVA .literal .up a b c)

/-- H0.10.7 (R244). -/
def execH0_10_7 (a b c : Field5) (s : State) : Result State := s.onHermes (HState.sumToVA .store .down a b c)

/-- H0.11.7 (R245). -/
def execH0_11_7 (a b c : Field5) (s : State) : Result State := s.onHermes (HState.sumToVA .literal .down a b c)

/-- H0.2x.x: a table the source omits (R113). -/
def execH0_2x (_rest : BitVec 19) (_s : State) : Result State := .refused .hermesTableOmitted

/-- H0.3x.x: a table the source omits (R113). -/
def execH0_3x (_rest : BitVec 19) (_s : State) : Result State := .refused .hermesTableOmitted

/-- H1.xx.x: a table the source omits (R113). -/
def execH1xx (_rest : BitVec 21) (_s : State) : Result State := .refused .hermesTableOmitted

/-- H2.xx.x: a table the source omits (R113). -/
def execH2xx (_rest : BitVec 21) (_s : State) : Result State := .refused .hermesTableOmitted

/-- H3.xx.x: a table the source omits (R113). -/
def execH3xx (_rest : BitVec 21) (_s : State) : Result State := .refused .hermesTableOmitted

/-- H4.xx.x: a table the source omits (R113). -/
def execH4xx (_rest : BitVec 21) (_s : State) : Result State := .refused .hermesTableOmitted

/-- H5.xx.x: a table the source omits (R113). -/
def execH5xx (_rest : BitVec 21) (_s : State) : Result State := .refused .hermesTableOmitted

/-- H6.xx.x: a table the source omits (R113). -/
def execH6xx (_rest : BitVec 21) (_s : State) : Result State := .refused .hermesTableOmitted

/-- H7.xx.x: a table the source omits (R113). -/
def execH7xx (_rest : BitVec 21) (_s : State) : Result State := .refused .hermesTableOmitted

end Sys2Proof.Machine
end

