-- ==== Sys2Proof/Machine/PoseidonOrder.lean ====
section
/-! DEFINITION. The execution of a Poseidon Group 0 order (spec/40_poseidon_group0.md R140), shared by the meanings of
Sys2Proof/Machine/Poseidon.lean. -/

namespace Sys2Proof.Machine

/-- Steps 6 to 8 of R140: P.L after a count of a negative lambda, P.N after a fast jump, else the next order; `p` is the state
before the order. -/
def PState.successor (v : PVariant) (fb fc : Field5) (p : PState) : Addr13 :=
  if v.countsLambda ∧ p.lambdaNegative then p.l
  else if v = .fast ∧ fb ≠ 2#5 ∧ fc ≠ 2#5 then p.n
  else p.pc + 1

/-- Step 4 of R140: the result, its record and its destination; a null order (`none`) skips it. -/
def PState.operate (c : Config) (v : PVariant) (op : Option PFunction) (fa : Field5) (o : PSources) (p : PState) : PState :=
  match op with
  | none => p
  | some f =>
    let r := f.apply c.pW o.b o.c
    ((p.record o.events).recordResult c f o.b o.c r).deliver c v fa r

/-- Steps 5, 6, 8 and 9 of R140: the counts, the successor and the mode; `before` is the state before the order. -/
def PState.finish (v : PVariant) (fb fc : Field5) (before p : PState) : PState :=
  let p5 := if v.countsN then p.countN else p
  let p6 := if v.countsLambda then p5.countLambda else p5
  { p6 with
    pc := before.successor v fb fc
    mode := if v = .returnOuter then .outer else before.mode }

/-- R140: a Group 0 order of variant `v`; `collate` is W = 4 or 5, and `op` is the operation chosen in step 3. -/
def PState.obey (v : PVariant) (collate : Bool) (op : Option PFunction) (fa fb fc : Field5) (c : Config) (p : PState) :
    Result PState :=
  if p.mode = .outer then .refused .poseidonOuterMode
  else
    match addressCheck c v collate fa fb fc with
    | some e => .refused e
    | none =>
      Result.andThen (p.sources c v fb fc) fun o => .next (PState.finish v fb fc p (p.operate c v op fa o))

/-- An order of V other than 3: the function of W, then what V adds (spec/40_poseidon_group0.md R144 to R153, R158 to R161). -/
def poseidonOrder (v : PVariant) (f : PFunction) (a b c : Field5) (s : State) : Result State :=
  s.onPoseidon (PState.obey v f.collates (some f) a b c)

/-- An order of V = 3: one operation where P.CR.neg is clear and another, or none, where it is set
(spec/40_poseidon_group0.md R154 to R157). -/
def poseidonConditional (collate : Bool) (nonNegative negative : Option PFunction) (a b c : Field5) (s : State) : Result State :=
  s.onPoseidon (PState.obey .conditional collate (if s.p.crNeg then negative else nonNegative) a b c)

/-- An order the spec gives no meaning, in Inner mode; in Outer mode the mode is refused first
(spec/60_exceptions.md R404, R406). -/
def poseidonRefused (e : Refusal) (s : State) : Result State :=
  if s.p.mode = .outer then .refused .poseidonOuterMode else .refused e

end Sys2Proof.Machine
end

