-- ==== Sys2Proof/Machine/Poseidon.lean ====
section
/-! DEFINITION. The Poseidon orders: Group 0 (spec/40_poseidon_group0.md R144 to R164) and Groups 1 to 7, which the spec gives in outline only
(spec/41_poseidon_groups1-7.md R180 to R188). -/

namespace Sys2Proof.Machine

/-- P000 (R144). -/
def execP000 (a b c : Field5) (s : State) : Result State := poseidonOrder .plain .add a b c s

/-- P001 (R145). -/
def execP001 (a b c : Field5) (s : State) : Result State := poseidonOrder .plain .sub a b c s

/-- P002 (R146). -/
def execP002 (a b c : Field5) (s : State) : Result State := poseidonOrder .plain .xor a b c s

/-- P003 (R147). -/
def execP003 (a b c : Field5) (s : State) : Result State := poseidonOrder .plain .xorNot a b c s

/-- P004 (R148). -/
def execP004 (a b c : Field5) (s : State) : Result State := poseidonOrder .plain .addCollate a b c s

/-- P005 (R149). -/
def execP005 (a b c : Field5) (s : State) : Result State := poseidonOrder .plain .subCollate a b c s

/-- P006 (R150). -/
def execP006 (a b c : Field5) (s : State) : Result State := poseidonOrder .plain .and a b c s

/-- P007 (R151). -/
def execP007 (a b c : Field5) (s : State) : Result State := poseidonOrder .plain .andNot a b c s

/-- P010 (R152). -/
def execP010 (a b c : Field5) (s : State) : Result State := poseidonOrder .countN .add a b c s

/-- P011 (R152). -/
def execP011 (a b c : Field5) (s : State) : Result State := poseidonOrder .countN .sub a b c s

/-- P012 (R152). -/
def execP012 (a b c : Field5) (s : State) : Result State := poseidonOrder .countN .xor a b c s

/-- P013 (R152). -/
def execP013 (a b c : Field5) (s : State) : Result State := poseidonOrder .countN .xorNot a b c s

/-- P014 (R152). -/
def execP014 (a b c : Field5) (s : State) : Result State := poseidonOrder .countN .addCollate a b c s

/-- P015 (R152). -/
def execP015 (a b c : Field5) (s : State) : Result State := poseidonOrder .countN .subCollate a b c s

/-- P016 (R152). -/
def execP016 (a b c : Field5) (s : State) : Result State := poseidonOrder .countN .and a b c s

/-- P017 (R152). -/
def execP017 (a b c : Field5) (s : State) : Result State := poseidonOrder .countN .andNot a b c s

/-- P020 (R153). -/
def execP020 (a b c : Field5) (s : State) : Result State := poseidonOrder .countBoth .add a b c s

/-- P021 (R153). -/
def execP021 (a b c : Field5) (s : State) : Result State := poseidonOrder .countBoth .sub a b c s

/-- P022 (R153). -/
def execP022 (a b c : Field5) (s : State) : Result State := poseidonOrder .countBoth .xor a b c s

/-- P023 (R153). -/
def execP023 (a b c : Field5) (s : State) : Result State := poseidonOrder .countBoth .xorNot a b c s

/-- P024 (R153). -/
def execP024 (a b c : Field5) (s : State) : Result State := poseidonOrder .countBoth .addCollate a b c s

/-- P025 (R153). -/
def execP025 (a b c : Field5) (s : State) : Result State := poseidonOrder .countBoth .subCollate a b c s

/-- P026 (R153). -/
def execP026 (a b c : Field5) (s : State) : Result State := poseidonOrder .countBoth .and a b c s

/-- P027 (R153). -/
def execP027 (a b c : Field5) (s : State) : Result State := poseidonOrder .countBoth .andNot a b c s

/-- P030 (R154). -/
def execP030 (a b c : Field5) (s : State) : Result State := poseidonConditional false (some .add) (some .sub) a b c s

/-- P031: not listed (R110). -/
def execP031 (_a _b _c : Field5) (s : State) : Result State := poseidonRefused .poseidon03WOddNotListed s

/-- P032 (R155). -/
def execP032 (a b c : Field5) (s : State) : Result State := poseidonConditional false (some .add) none a b c s

/-- P033: not listed (R110). -/
def execP033 (_a _b _c : Field5) (s : State) : Result State := poseidonRefused .poseidon03WOddNotListed s

/-- P034 (R156). -/
def execP034 (a b c : Field5) (s : State) : Result State := poseidonConditional true (some .sub) (some .add) a b c s

/-- P035: not listed (R110). -/
def execP035 (_a _b _c : Field5) (s : State) : Result State := poseidonRefused .poseidon03WOddNotListed s

/-- P036 (R157). -/
def execP036 (a b c : Field5) (s : State) : Result State := poseidonConditional false (some .sub) none a b c s

/-- P037: not listed (R110). -/
def execP037 (_a _b _c : Field5) (s : State) : Result State := poseidonRefused .poseidon03WOddNotListed s

/-- P040 (R158). -/
def execP040 (a b c : Field5) (s : State) : Result State := poseidonOrder .returnOuter .add a b c s

/-- P041 (R158). -/
def execP041 (a b c : Field5) (s : State) : Result State := poseidonOrder .returnOuter .sub a b c s

/-- P042 (R158). -/
def execP042 (a b c : Field5) (s : State) : Result State := poseidonOrder .returnOuter .xor a b c s

/-- P043 (R158). -/
def execP043 (a b c : Field5) (s : State) : Result State := poseidonOrder .returnOuter .xorNot a b c s

/-- P044 (R158). -/
def execP044 (a b c : Field5) (s : State) : Result State := poseidonOrder .returnOuter .addCollate a b c s

/-- P045 (R158). -/
def execP045 (a b c : Field5) (s : State) : Result State := poseidonOrder .returnOuter .subCollate a b c s

/-- P046 (R158). -/
def execP046 (a b c : Field5) (s : State) : Result State := poseidonOrder .returnOuter .and a b c s

/-- P047 (R158). -/
def execP047 (a b c : Field5) (s : State) : Result State := poseidonOrder .returnOuter .andNot a b c s

/-- P050 (R159). -/
def execP050 (a b c : Field5) (s : State) : Result State := poseidonOrder .fast .add a b c s

/-- P051 (R159). -/
def execP051 (a b c : Field5) (s : State) : Result State := poseidonOrder .fast .sub a b c s

/-- P052 (R159). -/
def execP052 (a b c : Field5) (s : State) : Result State := poseidonOrder .fast .xor a b c s

/-- P053 (R159). -/
def execP053 (a b c : Field5) (s : State) : Result State := poseidonOrder .fast .xorNot a b c s

/-- P054 (R159). -/
def execP054 (a b c : Field5) (s : State) : Result State := poseidonOrder .fast .addCollate a b c s

/-- P055 (R159). -/
def execP055 (a b c : Field5) (s : State) : Result State := poseidonOrder .fast .subCollate a b c s

/-- P056 (R159). -/
def execP056 (a b c : Field5) (s : State) : Result State := poseidonOrder .fast .and a b c s

/-- P057 (R159). -/
def execP057 (a b c : Field5) (s : State) : Result State := poseidonOrder .fast .andNot a b c s

/-- P060 (R160). -/
def execP060 (a b c : Field5) (s : State) : Result State := poseidonOrder .countLambda .add a b c s

/-- P061 (R160). -/
def execP061 (a b c : Field5) (s : State) : Result State := poseidonOrder .countLambda .sub a b c s

/-- P062 (R160). -/
def execP062 (a b c : Field5) (s : State) : Result State := poseidonOrder .countLambda .xor a b c s

/-- P063 (R160). -/
def execP063 (a b c : Field5) (s : State) : Result State := poseidonOrder .countLambda .xorNot a b c s

/-- P064 (R160). -/
def execP064 (a b c : Field5) (s : State) : Result State := poseidonOrder .countLambda .addCollate a b c s

/-- P065 (R160). -/
def execP065 (a b c : Field5) (s : State) : Result State := poseidonOrder .countLambda .subCollate a b c s

/-- P066 (R160). -/
def execP066 (a b c : Field5) (s : State) : Result State := poseidonOrder .countLambda .and a b c s

/-- P067 (R160). -/
def execP067 (a b c : Field5) (s : State) : Result State := poseidonOrder .countLambda .andNot a b c s

/-- P070 (R161). -/
def execP070 (a b c : Field5) (s : State) : Result State := poseidonOrder .device .add a b c s

/-- P071 (R161). -/
def execP071 (a b c : Field5) (s : State) : Result State := poseidonOrder .device .sub a b c s

/-- P072 (R161). -/
def execP072 (a b c : Field5) (s : State) : Result State := poseidonOrder .device .xor a b c s

/-- P073 (R161). -/
def execP073 (a b c : Field5) (s : State) : Result State := poseidonOrder .device .xorNot a b c s

/-- P074 (R161). -/
def execP074 (a b c : Field5) (s : State) : Result State := poseidonOrder .device .addCollate a b c s

/-- P075 (R161). -/
def execP075 (a b c : Field5) (s : State) : Result State := poseidonOrder .device .subCollate a b c s

/-- P076 (R161). -/
def execP076 (a b c : Field5) (s : State) : Result State := poseidonOrder .device .and a b c s

/-- P077 (R161). -/
def execP077 (a b c : Field5) (s : State) : Result State := poseidonOrder .device .andNot a b c s

/-- P1xx: outline only (R112, R188). -/
def execP1xx (_rest : BitVec 21) (s : State) : Result State := poseidonRefused (.poseidonGroupOutlineOnly 1#3) s

/-- P2xx: outline only (R112, R188). -/
def execP2xx (_rest : BitVec 21) (s : State) : Result State := poseidonRefused (.poseidonGroupOutlineOnly 2#3) s

/-- P3xx: outline only (R112, R188). -/
def execP3xx (_rest : BitVec 21) (s : State) : Result State := poseidonRefused (.poseidonGroupOutlineOnly 3#3) s

/-- P4xx: outline only (R112, R188). -/
def execP4xx (_rest : BitVec 21) (s : State) : Result State := poseidonRefused (.poseidonGroupOutlineOnly 4#3) s

/-- P5xx: outline only (R112, R188). -/
def execP5xx (_rest : BitVec 21) (s : State) : Result State := poseidonRefused (.poseidonGroupOutlineOnly 5#3) s

/-- P6xx: outline only (R112, R188). -/
def execP6xx (_rest : BitVec 21) (s : State) : Result State := poseidonRefused (.poseidonGroupOutlineOnly 6#3) s

/-- P7xx: outline only (R112, R188). -/
def execP7xx (_rest : BitVec 21) (s : State) : Result State := poseidonRefused (.poseidonGroupOutlineOnly 7#3) s

end Sys2Proof.Machine
end

