-- ==== Sys2Proof/Machine/Dispatch.lean ====
section
/-! DEFINITION. The execution of one instruction: one arm for each constructor of Instr. -/

namespace Sys2Proof.Machine

def exec (i : Instr) (s : State) : Host.Outcome State Fault Refusal :=
  match i with
  | .p000 a b c => Sys2Proof.Machine.execP000 a b c s
  | .p001 a b c => Sys2Proof.Machine.execP001 a b c s
  | .p002 a b c => Sys2Proof.Machine.execP002 a b c s
  | .p003 a b c => Sys2Proof.Machine.execP003 a b c s
  | .p004 a b c => Sys2Proof.Machine.execP004 a b c s
  | .p005 a b c => Sys2Proof.Machine.execP005 a b c s
  | .p006 a b c => Sys2Proof.Machine.execP006 a b c s
  | .p007 a b c => Sys2Proof.Machine.execP007 a b c s
  | .p010 a b c => Sys2Proof.Machine.execP010 a b c s
  | .p011 a b c => Sys2Proof.Machine.execP011 a b c s
  | .p012 a b c => Sys2Proof.Machine.execP012 a b c s
  | .p013 a b c => Sys2Proof.Machine.execP013 a b c s
  | .p014 a b c => Sys2Proof.Machine.execP014 a b c s
  | .p015 a b c => Sys2Proof.Machine.execP015 a b c s
  | .p016 a b c => Sys2Proof.Machine.execP016 a b c s
  | .p017 a b c => Sys2Proof.Machine.execP017 a b c s
  | .p020 a b c => Sys2Proof.Machine.execP020 a b c s
  | .p021 a b c => Sys2Proof.Machine.execP021 a b c s
  | .p022 a b c => Sys2Proof.Machine.execP022 a b c s
  | .p023 a b c => Sys2Proof.Machine.execP023 a b c s
  | .p024 a b c => Sys2Proof.Machine.execP024 a b c s
  | .p025 a b c => Sys2Proof.Machine.execP025 a b c s
  | .p026 a b c => Sys2Proof.Machine.execP026 a b c s
  | .p027 a b c => Sys2Proof.Machine.execP027 a b c s
  | .p030 a b c => Sys2Proof.Machine.execP030 a b c s
  | .p031 a b c => Sys2Proof.Machine.execP031 a b c s
  | .p032 a b c => Sys2Proof.Machine.execP032 a b c s
  | .p033 a b c => Sys2Proof.Machine.execP033 a b c s
  | .p034 a b c => Sys2Proof.Machine.execP034 a b c s
  | .p035 a b c => Sys2Proof.Machine.execP035 a b c s
  | .p036 a b c => Sys2Proof.Machine.execP036 a b c s
  | .p037 a b c => Sys2Proof.Machine.execP037 a b c s
  | .p040 a b c => Sys2Proof.Machine.execP040 a b c s
  | .p041 a b c => Sys2Proof.Machine.execP041 a b c s
  | .p042 a b c => Sys2Proof.Machine.execP042 a b c s
  | .p043 a b c => Sys2Proof.Machine.execP043 a b c s
  | .p044 a b c => Sys2Proof.Machine.execP044 a b c s
  | .p045 a b c => Sys2Proof.Machine.execP045 a b c s
  | .p046 a b c => Sys2Proof.Machine.execP046 a b c s
  | .p047 a b c => Sys2Proof.Machine.execP047 a b c s
  | .p050 a b c => Sys2Proof.Machine.execP050 a b c s
  | .p051 a b c => Sys2Proof.Machine.execP051 a b c s
  | .p052 a b c => Sys2Proof.Machine.execP052 a b c s
  | .p053 a b c => Sys2Proof.Machine.execP053 a b c s
  | .p054 a b c => Sys2Proof.Machine.execP054 a b c s
  | .p055 a b c => Sys2Proof.Machine.execP055 a b c s
  | .p056 a b c => Sys2Proof.Machine.execP056 a b c s
  | .p057 a b c => Sys2Proof.Machine.execP057 a b c s
  | .p060 a b c => Sys2Proof.Machine.execP060 a b c s
  | .p061 a b c => Sys2Proof.Machine.execP061 a b c s
  | .p062 a b c => Sys2Proof.Machine.execP062 a b c s
  | .p063 a b c => Sys2Proof.Machine.execP063 a b c s
  | .p064 a b c => Sys2Proof.Machine.execP064 a b c s
  | .p065 a b c => Sys2Proof.Machine.execP065 a b c s
  | .p066 a b c => Sys2Proof.Machine.execP066 a b c s
  | .p067 a b c => Sys2Proof.Machine.execP067 a b c s
  | .p070 a b c => Sys2Proof.Machine.execP070 a b c s
  | .p071 a b c => Sys2Proof.Machine.execP071 a b c s
  | .p072 a b c => Sys2Proof.Machine.execP072 a b c s
  | .p073 a b c => Sys2Proof.Machine.execP073 a b c s
  | .p074 a b c => Sys2Proof.Machine.execP074 a b c s
  | .p075 a b c => Sys2Proof.Machine.execP075 a b c s
  | .p076 a b c => Sys2Proof.Machine.execP076 a b c s
  | .p077 a b c => Sys2Proof.Machine.execP077 a b c s
  | .p1xx rest => Sys2Proof.Machine.execP1xx rest s
  | .p2xx rest => Sys2Proof.Machine.execP2xx rest s
  | .p3xx rest => Sys2Proof.Machine.execP3xx rest s
  | .p4xx rest => Sys2Proof.Machine.execP4xx rest s
  | .p5xx rest => Sys2Proof.Machine.execP5xx rest s
  | .p6xx rest => Sys2Proof.Machine.execP6xx rest s
  | .p7xx rest => Sys2Proof.Machine.execP7xx rest s
  | .h0_00_0 a b c => Sys2Proof.Machine.execH0_00_0 a b c s
  | .h0_01_0 a b c => Sys2Proof.Machine.execH0_01_0 a b c s
  | .h0_00_1 a b c => Sys2Proof.Machine.execH0_00_1 a b c s
  | .h0_01_1 a b c => Sys2Proof.Machine.execH0_01_1 a b c s
  | .h0_00_2 a b c => Sys2Proof.Machine.execH0_00_2 a b c s
  | .h0_01_2 a b c => Sys2Proof.Machine.execH0_01_2 a b c s
  | .h0_00_3 a b c => Sys2Proof.Machine.execH0_00_3 a b c s
  | .h0_01_3 a b c => Sys2Proof.Machine.execH0_01_3 a b c s
  | .h0_00_4 a b c => Sys2Proof.Machine.execH0_00_4 a b c s
  | .h0_01_4 a b c => Sys2Proof.Machine.execH0_01_4 a b c s
  | .h0_00_5 a b c => Sys2Proof.Machine.execH0_00_5 a b c s
  | .h0_01_5 a b c => Sys2Proof.Machine.execH0_01_5 a b c s
  | .h0_00_6 a b c => Sys2Proof.Machine.execH0_00_6 a b c s
  | .h0_01_6 a b c => Sys2Proof.Machine.execH0_01_6 a b c s
  | .h0_00_7 a b c => Sys2Proof.Machine.execH0_00_7 a b c s
  | .h0_01_7 a b c => Sys2Proof.Machine.execH0_01_7 a b c s
  | .h0_10_0 a b c => Sys2Proof.Machine.execH0_10_0 a b c s
  | .h0_11_0 a b c => Sys2Proof.Machine.execH0_11_0 a b c s
  | .h0_10_1 a b c => Sys2Proof.Machine.execH0_10_1 a b c s
  | .h0_11_1 a b c => Sys2Proof.Machine.execH0_11_1 a b c s
  | .h0_10_2 a b c => Sys2Proof.Machine.execH0_10_2 a b c s
  | .h0_11_2 a b c => Sys2Proof.Machine.execH0_11_2 a b c s
  | .h0_10_3 a b c => Sys2Proof.Machine.execH0_10_3 a b c s
  | .h0_11_3 a b c => Sys2Proof.Machine.execH0_11_3 a b c s
  | .h0_10_4 a b c => Sys2Proof.Machine.execH0_10_4 a b c s
  | .h0_11_4 a b c => Sys2Proof.Machine.execH0_11_4 a b c s
  | .h0_10_5 a b c => Sys2Proof.Machine.execH0_10_5 a b c s
  | .h0_11_5 a b c => Sys2Proof.Machine.execH0_11_5 a b c s
  | .h0_10_6 a b c => Sys2Proof.Machine.execH0_10_6 a b c s
  | .h0_11_6 a b c => Sys2Proof.Machine.execH0_11_6 a b c s
  | .h0_10_7 a b c => Sys2Proof.Machine.execH0_10_7 a b c s
  | .h0_11_7 a b c => Sys2Proof.Machine.execH0_11_7 a b c s
  | .h0_2x rest => Sys2Proof.Machine.execH0_2x rest s
  | .h0_3x rest => Sys2Proof.Machine.execH0_3x rest s
  | .h1xx rest => Sys2Proof.Machine.execH1xx rest s
  | .h2xx rest => Sys2Proof.Machine.execH2xx rest s
  | .h3xx rest => Sys2Proof.Machine.execH3xx rest s
  | .h4xx rest => Sys2Proof.Machine.execH4xx rest s
  | .h5xx rest => Sys2Proof.Machine.execH5xx rest s
  | .h6xx rest => Sys2Proof.Machine.execH6xx rest s
  | .h7xx rest => Sys2Proof.Machine.execH7xx rest s
  | .a00 n x m => Sys2Proof.Machine.execA00 n x m s
  | .a01 n x m => Sys2Proof.Machine.execA01 n x m s
  | .a02 n x m => Sys2Proof.Machine.execA02 n x m s
  | .a03 n x m => Sys2Proof.Machine.execA03 n x m s
  | .a04 n x m => Sys2Proof.Machine.execA04 n x m s
  | .a05 n x m => Sys2Proof.Machine.execA05 n x m s
  | .a06 n x m => Sys2Proof.Machine.execA06 n x m s
  | .a07 n x m => Sys2Proof.Machine.execA07 n x m s
  | .a10 n x m => Sys2Proof.Machine.execA10 n x m s
  | .a11 n x m => Sys2Proof.Machine.execA11 n x m s
  | .a12 n x m => Sys2Proof.Machine.execA12 n x m s
  | .a13 n x m => Sys2Proof.Machine.execA13 n x m s
  | .a14 n x m => Sys2Proof.Machine.execA14 n x m s
  | .a15 n x m => Sys2Proof.Machine.execA15 n x m s
  | .a16 n x m => Sys2Proof.Machine.execA16 n x m s
  | .a17 n x m => Sys2Proof.Machine.execA17 n x m s
  | .a20 n x m => Sys2Proof.Machine.execA20 n x m s
  | .a21 n x m => Sys2Proof.Machine.execA21 n x m s
  | .a22 n x m => Sys2Proof.Machine.execA22 n x m s
  | .a23 n x m => Sys2Proof.Machine.execA23 n x m s
  | .a24 n x m => Sys2Proof.Machine.execA24 n x m s
  | .a25 n x m => Sys2Proof.Machine.execA25 n x m s
  | .a26 n x m => Sys2Proof.Machine.execA26 n x m s
  | .a27 n x m => Sys2Proof.Machine.execA27 n x m s
  | .a30 n x m => Sys2Proof.Machine.execA30 n x m s
  | .a31 n x m => Sys2Proof.Machine.execA31 n x m s
  | .a32 n x m => Sys2Proof.Machine.execA32 n x m s
  | .a33 n x m => Sys2Proof.Machine.execA33 n x m s
  | .a34 n x m => Sys2Proof.Machine.execA34 n x m s
  | .a35 n x m => Sys2Proof.Machine.execA35 n x m s
  | .a36 n x m => Sys2Proof.Machine.execA36 n x m s
  | .a37 n x m => Sys2Proof.Machine.execA37 n x m s
  | .a40 n x m => Sys2Proof.Machine.execA40 n x m s
  | .a41 n x m => Sys2Proof.Machine.execA41 n x m s
  | .a42 n x m => Sys2Proof.Machine.execA42 n x m s
  | .a43 n x m => Sys2Proof.Machine.execA43 n x m s
  | .a44 n x m => Sys2Proof.Machine.execA44 n x m s
  | .a45 n x m => Sys2Proof.Machine.execA45 n x m s
  | .a46 n x m => Sys2Proof.Machine.execA46 n x m s
  | .a47 n x m => Sys2Proof.Machine.execA47 n x m s
  | .a50 n x m => Sys2Proof.Machine.execA50 n x m s
  | .a51 n x m => Sys2Proof.Machine.execA51 n x m s
  | .a52 n x m => Sys2Proof.Machine.execA52 n x m s
  | .a53 n x m => Sys2Proof.Machine.execA53 n x m s
  | .a54 n x m => Sys2Proof.Machine.execA54 n x m s
  | .a55 n x m => Sys2Proof.Machine.execA55 n x m s
  | .a56 n x m => Sys2Proof.Machine.execA56 n x m s
  | .a57 n x m => Sys2Proof.Machine.execA57 n x m s
  | .a60 n x m => Sys2Proof.Machine.execA60 n x m s
  | .a61 n x m => Sys2Proof.Machine.execA61 n x m s
  | .a62 n x m => Sys2Proof.Machine.execA62 n x m s
  | .a63 n x m => Sys2Proof.Machine.execA63 n x m s
  | .a64 n x m => Sys2Proof.Machine.execA64 n x m s
  | .a65 n x m => Sys2Proof.Machine.execA65 n x m s
  | .a66 n x m => Sys2Proof.Machine.execA66 n x m s
  | .a67 n x m => Sys2Proof.Machine.execA67 n x m s
  | .a70 n x m => Sys2Proof.Machine.execA70 n x m s
  | .a71 n x m => Sys2Proof.Machine.execA71 n x m s
  | .a72 n x m => Sys2Proof.Machine.execA72 n x m s
  | .a73 n x m => Sys2Proof.Machine.execA73 n x m s
  | .a74 n x m => Sys2Proof.Machine.execA74 n x m s
  | .a75 n x m => Sys2Proof.Machine.execA75 n x m s
  | .a76 n x m => Sys2Proof.Machine.execA76 n x m s
  | .a77 n x m => Sys2Proof.Machine.execA77 n x m s

end Sys2Proof.Machine
end

