-- ==== Sys2Proof/Machine/Fetch.lean ====
section
/-! DEFINITION. What a step does around an order: the fetch (spec/20_memory.md R70, R76, R82), the choice of an Argus interruption
and the end of an Argus run (spec/60_exceptions.md R402, R406, spec/10_state.md R60), and placing a word where the next fetch reads it. -/

namespace Sys2Proof.Machine

/-- The order at an address of a program store; a word that nothing has loaded is refused
(spec/70_reset_and_hazards.md R440; log 6). DESIGN CHOICE (log 21): the refusal belongs to the fetch, so it comes before that of
Outer mode; spec/60_exceptions.md R406 names no place for it. -/
def loadedOrder (m : Program) (e : Nat) : Result Order :=
  match Cells.read? m e with
  | some w => .next w
  | none => .refused .unwrittenOrder

/-- The order that a machine obeys next: stuck outside the program store (spec/10_state.md R27, spec/60_exceptions.md R400,
R406). The Argus program store holds every address of its 13-bit pc (R82). -/
def State.fetch (s : State) (m : MachineId) : Result Order :=
  match m with
  | .poseidon =>
    if s.cfg.pFpsSize ≤ s.p.pc.toNat then .fault .poseidonFetchOutside else loadedOrder s.p.fps s.p.pc.toNat
  | .hermes => if 2 ^ s.cfg.hAW ≤ s.h.pc then .fault .hermesFetchOutside else loadedOrder s.h.prog s.h.pc
  | .argus => loadedOrder s.a.prog s.a.pc.toNat

/-- The ordinary step: the order at the program counter is decoded and obeyed (spec/60_exceptions.md R406). -/
def State.obeyNext (s : State) (m : MachineId) : Result State :=
  Result.andThen (s.fetch m) fun w => exec (decode m w) s

/-- A step of the Argus: none once it is halted; where an interruption is possible, the drawn choice between its entry and the
ordinary step comes before the fetch (spec/10_state.md R60, spec/60_exceptions.md R402, R406). -/
def State.stepArgus (s : State) : Result State :=
  if s.a.halted then .fault .argusHalted
  else
    match s.a.interruptionEntry s.cfg with
    | none => s.obeyNext .argus
    | some entry =>
      let s1 := s.withA (s.a.record [.interruption s.a.interruptionTaken])
      if s.a.interruptionTaken then .next (s1.withA (s1.a.takeInterruption entry)) else s1.obeyNext .argus

/-- A step of the running family's machine (spec/00_scope.md R19); the Apollo has none, and every step of it is refused
(spec/43_apollo.md R261). -/
def State.stepRunning (s : State) : Result State :=
  match s.running with
  | .poseidon => s.obeyNext .poseidon
  | .hermes => s.obeyNext .hermes
  | .apollo => .refused .apolloNoData
  | .argus => s.stepArgus

/-- The state with one order placed at the running machine's program counter; an Apollo has no place for one. -/
def State.placeOrder (s : State) (w : Order) : State :=
  match s.running with
  | .poseidon => { s with p := { s.p with fps := Cells.write s.p.fps s.p.pc.toNat w } }
  | .hermes => { s with h := { s.h with prog := Cells.write s.h.prog s.h.pc w } }
  | .apollo => s
  | .argus => { s with a := { s.a with prog := Cells.write s.a.prog s.a.pc.toNat w } }

end Sys2Proof.Machine
end

