-- ==== Sys2Proof/Machine/Step.lean ====
section
/-! DEFINITION. One step of the machine, and a word placed where the next step fetches it. -/

namespace Sys2Proof.Machine

/-- One step: one whole order of the running machine, or an Argus interruption entry (spec/20_memory.md R92,
spec/60_exceptions.md R402). -/
def step (s : State) : Host.Outcome State Fault Refusal := s.stepRunning

/-- The state with a word stored where the next step fetches its order: at the running machine's program counter, in its program
store (log 6). An order is one word of 24 bits, so the bits above `nbits` are zeros of that word. -/
def State.withFetchWord (s : State) (_nbits w : Nat) : State := s.placeOrder (BitVec.ofNat 24 w)

end Sys2Proof.Machine
end

