-- ==== Sys2Proof/Safety.lean ====
section
/-! DEFINITION. The terms claims use: a well-formed state, the steps of a run, and what it is for a step to complete. -/

namespace Sys2Proof.Machine

/-- Every word of the Poseidon fits its width and every store has its one form (spec/10_state.md R20, R26, spec/20_memory.md
R70, R72). -/
abbrev PState.wf (c : Config) (p : PState) : Prop :=
  (∀ k : Fin 32, p.r[k] < 2 ^ c.pW) ∧ p.q.length = c.pNQ ∧ Program.wf c.pFpsSize p.fps ∧ Memory.wf c.pW c.pDsSize p.ds

/-- Every word of the Hermes fits its width and every store has its one form (spec/10_state.md R40 to R42, spec/20_memory.md
R75, R76). -/
abbrev HState.wf (c : Config) (h : HState) : Prop :=
  Memory.wf c.hW c.hStoreSize h.v ∧ h.n1 < 2 ^ c.hAW ∧ h.pc < 2 ^ c.hAW ∧ Program.wf (2 ^ c.hAW) h.prog

/-- Every word of the Argus fits its width and every store has its one form (spec/10_state.md R50, R51, R59, spec/20_memory.md
R80, R82). -/
abbrev AState.wf (c : Config) (a : AState) : Prop :=
  (∀ k : Fin 6, a.x[k] < 2 ^ c.aW) ∧ a.q1 < 2 ^ c.aW ∧ a.q2 < 2 ^ c.aW ∧ Memory.wf c.aW c.aStoreSize a.s ∧
  a.reg20 < 2 ^ c.aW ∧ a.reg22 < 2 ^ c.aW ∧ Program.wf 8192 a.prog

/-- The invariant of the model: a legal configuration and three well-formed machines. -/
abbrev State.Inv (s : State) : Prop := s.cfg.wf ∧ s.p.wf s.cfg ∧ s.h.wf s.cfg ∧ s.a.wf s.cfg

/-- The step from `s` answers the next state `t`. -/
def StepsTo (s t : State) : Prop := step s = .next t

/-- A run: zero or more steps, each answering a next state. -/
inductive Reaches : State → State → Prop where
  | refl (s : State) : Reaches s s
  | step {s t u : State} : Reaches s t → StepsTo t u → Reaches s u

/-- The outcome is a next state. -/
def Completes (o : Host.Outcome State Fault Refusal) : Prop := ∃ t, o = .next t

/-- The outcome is a refusal. -/
def IsRefused (o : Host.Outcome State Fault Refusal) : Prop := ∃ e, o = .refused e

/-- The run has ended normally: the Argus runs and is halted (spec/70_reset_and_hazards.md R448). -/
def State.ended (s : State) : Prop := s.running = .argus ∧ s.a.halted = true

/-! ### Terms of the Poseidon statements -/

/-- The three fields name ordinary cells: neither 2 nor 3, and in P_PLAIN (spec/40_poseidon_group0.md R143). -/
abbrev PlainFields (c : Config) (a b d : Field5) : Prop :=
  (a ≠ 2#5 ∧ a ≠ 3#5 ∧ isPlain c a = true) ∧ (b ≠ 2#5 ∧ b ≠ 3#5 ∧ isPlain c b = true) ∧
  (d ≠ 2#5 ∧ d ≠ 3#5 ∧ isPlain c d = true)

/-- The Poseidon after the W function of `bv` and `cv` with destination `a`: the result, C.R. and OVR, the record of a drawn C.R.,
and the next order; nothing else (spec/40_poseidon_group0.md R141, R142, spec/10_state.md R27). -/
def PState.afterFunction (c : Config) (f : PFunction) (a : Field5) (bv cv : Nat) (p : PState) : PState :=
  { p with
    r := p.r.set a.toNat (f.apply c.pW bv cv) a.isLt
    crNeg := if f.usesAdder then decide (sval c.pW (f.apply c.pW bv cv) < 0) else Config.drawnCrNeg p.history.length
    crZero := if f.usesAdder then decide (f.apply c.pW bv cv = 0) else Config.drawnCrZero p.history.length
    ovr := p.ovr || f.overflows c.pW bv cv
    history := if f.usesAdder then p.history else
      p.history ++ [.conditionRecord (Config.drawnCrNeg p.history.length) (Config.drawnCrZero p.history.length)]
    pc := p.pc + 1 }

/-- N after a count (spec/40_poseidon_group0.md R165). -/
def PState.countedN (p : PState) : Addr13 := p.n + (if p.q10 then 2 else 1)

/-- The order after a count and test of lambda: L where lambda was negative before the count, else the next one
(spec/40_poseidon_group0.md R167). -/
def PState.lambdaSuccessor (p : PState) : Addr13 := if p.lambda.msb then p.l else p.pc + 1

/-! ### Terms of the Hermes statements -/

/-- The third operand of a cell: the word at C, or the literal C (spec/42_hermes_f0.md R200). -/
def HState.thirdWord (c : Config) (h : HState) (t : HThird) (fc : Field5) : Read :=
  match t with
  | .store => h.word c 2 fc.toNat
  | .literal => ⟨extend5 c.hCExt c.hW fc, []⟩

/-- The true sum of two operands (spec/42_hermes_f0.md R201). -/
def trueSum (c : Config) (u v : Read) : Int := sval c.hW u.val + sval c.hW v.val

/-- The sum is answered: it fits H_W bits, or H_OVERFLOW is wrap (spec/42_hermes_f0.md R201). -/
abbrev SumAllowed (c : Config) (t : Int) : Prop := fitsSigned c.hW t = true ∨ c.hOverflow = .wrap

/-- The sum is refused: it does not fit H_W bits and H_OVERFLOW is refuse (spec/42_hermes_f0.md R201). -/
abbrev SumRefused (c : Config) (t : Int) : Prop := fitsSigned c.hW t = false ∧ c.hOverflow = .refuse

/-- The order after a jump that is made, and the draws its address made (spec/42_hermes_f0.md R202; log 24). -/
def HState.jumpAddress (c : Config) (h : HState) (j : HJump) (fa : Field5) : Read :=
  match j with
  | .throughVA => ⟨(h.word c 0 fa.toNat).val % 2 ^ c.hAW, (h.word c 0 fa.toNat).events⟩
  | .relative => ⟨trunc c.hAW ((h.pc : Int) + (if c.hRelBase = .self then 0 else 1) + fa.toInt), []⟩

/-! ### Terms of the Argus statements -/

/-- A store operand is there: no long operand at address 0, and the address lies in the store (spec/20_memory.md R80, R85). -/
abbrev OperandAllowed (c : Config) (x : BitVec 3) (ne : Addr13) : Prop :=
  ¬(isLong x = true ∧ ne = 0) ∧ ne.toNat < c.aStoreSize

/-- The two top bits of a word of `w` bits differ: it is normalised (spec/47_argus_shift.md R349). -/
abbrev TopBitsDiffer (w v : Nat) : Prop := v.testBit (w - 1) ≠ v.testBit (w - 2)

end Sys2Proof.Machine
end

