-- ==== Sys2Proof/Certificates/Slice0/Obligations.lean ====
section
/-! DEFINITION. The statements for the provers, from the numbered rules of spec/. -/

open Sys2Proof Sys2Proof.Machine

/-- Decoding the word of an order, for the order's own machine, gives the order back (R100, R101, R103, R105, R118). For every
instruction of the three machines, with every operand at every value, decode of encode of it, told the machine it belongs to,
is the instruction itself. -/
def Obligations.DecodeOfEncodeIsTheOrder : Prop :=
  ∀ i : Instr, decode i.machine (encode i) = i

/-- Every 24-bit word decodes, for each machine, to an order of that machine whose word it is (R100, R118). For every machine and
every 24-bit word: the decoded instruction belongs to that machine and its encoding is the word. No bit of any word is
dropped. That no two words are one instruction, because the decoder keeps the fields a function does not use, is the model's
choice (DESIGN CHOICE, log 23): R115 makes one instruction of all values of such a field. -/
def Obligations.EncodeOfDecodeIsTheWord : Prop :=
  ∀ (m : MachineId) (w : Order), (decode m w).machine = m ∧ encode (decode m w) = w

/-- Words written out from the formats decode to the orders they stand for (R101, R103, R105, R107, R108, R109). Encoding vectors
EV1, EV2, EV4, EV6 (Poseidon), EV7, EV8, EV9, EV11 (Hermes), EV12, EV13, EV15, EV16 (Argus) of spec/95_test_vectors.md decode
as listed there. A sanity statement on fixed words. -/
def Obligations.WrittenWordsDecode : Prop :=
  decode .poseidon 0o00012307#24 = .p000 5 6 7 ∧ decode .poseidon 0o02777777#24 = .p027 31 31 31 ∧
  decode .poseidon 0o05012302#24 = .p050 5 6 2 ∧ decode .poseidon 0o12345670#24 = .p1xx 0o2345670#21 ∧
  decode .hermes 0o02010246#24 = .h0_10_0 4 5 6 ∧ decode .hermes 0o00672246#24 = .h0_00_6 (-3) 5 6 ∧
  decode .hermes 0o03777777#24 = .h0_11_7 31 31 31 ∧ decode .hermes 0o04000000#24 = .h0_2x 0#19 ∧
  decode .argus 0o00621404#24 = .a01 100 3 0 ∧ decode .argus 0o77777777#24 = .a77 8191 7 3 ∧
  decode .argus 0o77771640#24 = .a50 (-2) 3 0 ∧ decode .argus 0o00311735#24 = .a67 50 3 1

/-- A step obeys the order decoded from the word at the program counter (R70, R76, R82, R92, R406, R100). When the running
machine's program counter lies in its program store and a word is loaded there, the step is exec of the order that word
decodes to for that machine. For the Argus: not halted and no interruptions configured (InterruptionBeforeAnOrder says the
rest). -/
def Obligations.StepRunsTheDecodedOrder : Prop :=
  ∀ (s : State) (w : Order),
    (s.running = .poseidon → s.p.pc.toNat < s.cfg.pFpsSize → Cells.read? s.p.fps s.p.pc.toNat = some w →
      step s = exec (decode .poseidon w) s) ∧
    (s.running = .hermes → s.h.pc < 2 ^ s.cfg.hAW → Cells.read? s.h.prog s.h.pc = some w →
      step s = exec (decode .hermes w) s) ∧
    (s.running = .argus → s.a.halted = false → s.cfg.aInt = none → Cells.read? s.a.prog s.a.pc.toNat = some w →
      step s = exec (decode .argus w) s)

/-- A fetch outside the program store is stuck, of a word nothing loaded refused (model's choice, log 6, log 21), and every
question about the Apollo refused (R27, R261, R400, R406, R440). Poseidon: pc at or above P_FPS_SIZE is stuck. Hermes: pc at
or above 2^H_AW is stuck. A word that nothing has loaded, inside the store, is refused: of the two treatments of unwritten
state in R440 the model takes the refusal for a fetch, a DESIGN CHOICE named in log 6, and makes it at the fetch, before the
refusal of Outer mode, a DESIGN CHOICE named in log 21. Apollo: every step, and every word given to the decoder, is refused
with no data in source. -/
def Obligations.StepStopsWhereNothingCanBeFetched : Prop :=
  ∀ s : State,
    (s.running = .poseidon → s.cfg.pFpsSize ≤ s.p.pc.toNat → step s = .fault .poseidonFetchOutside) ∧
    (s.running = .hermes → 2 ^ s.cfg.hAW ≤ s.h.pc → step s = .fault .hermesFetchOutside) ∧
    (s.running = .poseidon → s.p.pc.toNat < s.cfg.pFpsSize → Cells.read? s.p.fps s.p.pc.toNat = none →
      step s = .refused .unwrittenOrder) ∧
    (s.running = .hermes → s.h.pc < 2 ^ s.cfg.hAW → Cells.read? s.h.prog s.h.pc = none →
      step s = .refused .unwrittenOrder) ∧
    (s.running = .argus → s.a.halted = false → s.cfg.aInt = none → Cells.read? s.a.prog s.a.pc.toNat = none →
      step s = .refused .unwrittenOrder) ∧
    (s.running = .apollo → step s = .refused .apolloNoData) ∧
    (∀ nbits w : Nat, decodeBits .apollo nbits w = .error .apolloNoData)

/-- A.halted: false at reset, set by 77 alone, never cleared; a halted Argus takes no step (R60, R375). A.halted is false at
reset. Function 77 with any N, X, M sets it and advances pc, changing nothing else. No other order sets it, no step clears it,
and a halted Argus has no further step. -/
def Obligations.HaltedIsSetBy77AndEndsTheRun : Prop :=
  State.reset.a.halted = false ∧
  (∀ (s : State) (n : Addr13) (x : BitVec 3) (m : BitVec 2),
    exec (.a77 n x m) s = .next (s.withA { s.a with halted := true, pc := s.a.pc + 1 })) ∧
  (∀ (i : Instr) (s t : State), exec i s = .next t → s.a.halted = false → t.a.halted = true → ∃ n x m, i = .a77 n x m) ∧
  (∀ s t : State, step s = .next t → s.a.halted = true → t.a.halted = true) ∧
  (∀ s : State, s.running = .argus → s.a.halted = true → step s = .fault .argusHalted)

/-- With A_INT supplied: interruption entry or the ordinary step, by a recorded draw (R402). A running Argus that is not halted,
with A_INT supplied: where A_INT.enabled holds, the draw is recorded and, if it says so, the step is the entry: link takes pc,
pc takes A_INT.entry, and nothing else is saved or changed; otherwise the ordinary step. Where A_INT.enabled does not hold,
the ordinary step and no draw. -/
def Obligations.InterruptionBeforeAnOrder : Prop :=
  ∀ (s : State) (entry : Addr13), s.running = .argus → s.a.halted = false → s.cfg.aInt = some entry →
    step s =
      if Config.interruptEnabled s.a then
        if Config.drawnInterruption s.a.history.length then
          .next (s.withA { s.a with
            link := s.a.pc, pc := entry, history := s.a.history ++ [.interruption true] })
        else (s.withA { s.a with history := s.a.history ++ [.interruption false] }).obeyNext .argus
      else s.obeyNext .argus

/-- State.reset satisfies the invariant, is in Inner mode and has empty records (R440, R441, R7). The invariant (legal
configuration, words within their widths, stores in their one form) holds at State.reset; P.mode is Inner, P.punch and the
three event histories are empty, A.halted is false, and each pc is its entry address. The other register values (zeros) and
the OPEN parameters at reset are the model's choice (log 2, log 3, log 4). -/
def Obligations.ResetIsALegalStart : Prop :=
  State.reset.Inv ∧ State.reset.p.mode = .inner ∧ State.reset.p.punch = [] ∧ State.reset.a.halted = false ∧
  State.reset.p.history = [] ∧ State.reset.h.history = [] ∧ State.reset.a.history = [] ∧
  State.reset.p.pc = State.reset.cfg.pEntry ∧ State.reset.h.pc = State.reset.cfg.hEntry ∧
  State.reset.a.pc = State.reset.cfg.aEntry

/-- Every step keeps the invariant: words fit their widths, stores keep their one form (R20, R26, R40, R41, R42, R50, R51, R59,
R70, R72, R75, R80). From every state with a legal configuration, every register and store word below 2 to its width, N1 and
H.pc below 2^H_AW, P_NQ Q stats, and stores with strictly rising addresses inside their sizes, a step that answers a next
state answers one with the same property. -/
def Obligations.StepKeepsTheInvariant : Prop :=
  ∀ s t : State, s.Inv → step s = .next t → t.Inv

/-- An order of one machine leaves the other two machines, the configuration and the running machine alone (R19). For every order
that answers a next state: the configuration and the choice of the running machine are unchanged, and the state of each
machine the order does not belong to is unchanged. -/
def Obligations.MachinesHaveDisjointState : Prop :=
  ∀ (i : Instr) (s t : State), exec i s = .next t →
    t.cfg = s.cfg ∧ t.running = s.running ∧ (i.machine ≠ .poseidon → t.p = s.p) ∧
    (i.machine ≠ .hermes → t.h = s.h) ∧ (i.machine ≠ .argus → t.a = s.a)

/-- The outcome of an order depends on its own machine and the configuration alone (R19). Two states with the same configuration
and the same state of the order's machine: the order stops in one exactly as in the other, or completes in both with the same
state of its machine. -/
def Obligations.OrdersReadOnlyTheirOwnMachine : Prop :=
  ∀ (i : Instr) (s u : State), s.cfg = u.cfg → (i.machine = .poseidon → s.p = u.p) → (i.machine = .hermes → s.h = u.h) →
    (i.machine = .argus → s.a = u.a) →
    (∀ e, exec i s = .fault e ↔ exec i u = .fault e) ∧ (∀ e, exec i s = .refused e ↔ exec i u = .refused e) ∧
    (∀ t, exec i s = .next t → ∃ v, exec i u = .next v ∧ (i.machine = .poseidon → t.p = v.p) ∧
      (i.machine = .hermes → t.h = v.h) ∧ (i.machine = .argus → t.a = v.a))

/-- No step writes a program store, the Poseidon data store, L, mu, alpha, kappa or a Q stat (R22, R24, R26, R70, R72, R76, R82,
R98). After every step the three program stores, P.DS, P.L, P.mu, P.alpha, P.kappa and P.Q are what they were: the modelled
orders never write them. -/
def Obligations.ProgramsAndOuterRegistersNeverChange : Prop :=
  ∀ s t : State, step s = .next t →
    t.p.fps = s.p.fps ∧ t.h.prog = s.h.prog ∧ t.a.prog = s.a.prog ∧ t.p.ds = s.p.ds ∧ t.p.l = s.p.l ∧
    t.p.mu = s.p.mu ∧ t.p.alpha = s.p.alpha ∧ t.p.kappa = s.p.kappa ∧ t.p.q = s.p.q

/-- P.punch and the event histories only grow (R29, R162, R440, R449). After every step P.punch begins with what it was, and so do
the three event histories: nothing sent or drawn is lost. Only a V = 7 order with A = 3 appends to P.punch. -/
def Obligations.RecordsOnlyGrow : Prop :=
  (∀ s t : State, step s = .next t →
    s.p.punch <+: t.p.punch ∧ s.p.history <+: t.p.history ∧ s.h.history <+: t.h.history ∧ s.a.history <+: t.a.history) ∧
  (∀ (i : Instr) (s t : State), exec i s = .next t → t.p.punch ≠ s.p.punch →
    ∃ b c : Field5, i ∈ [Instr.p070 3 b c, Instr.p071 3 b c, Instr.p072 3 b c, Instr.p073 3 b c, Instr.p076 3 b c,
      Instr.p077 3 b c])

/-- P.OVR is never cleared; A.OVR is cleared only by 64 and 65 (R54, R142, R271, R365, R366). For every order that answers a next
state: if P.OVR was set it stays set, and if A.OVR was set and is clear afterwards, the order was an Argus 64 or 65. -/
def Obligations.OverflowIndicatorsAreKept : Prop :=
  ∀ (i : Instr) (s t : State), exec i s = .next t →
    (s.p.ovr = true → t.p.ovr = true) ∧
    (s.a.ovr = true → t.a.ovr = false → ∃ n x m, i = .a64 n x m ∨ i = .a65 n x m)

/-- Which orders can change P.N, P.lambda, P.mode, H.N1, A.link and the modifiers (R21, R23, R30, R41, R45, R55, R56, R61). For
every order that answers a next state: A.link changes only by 70, a modifier only by 66 and 67, H.N1 only by the cells of I =
1 with S = 1 (D = 0), 2, 3, 6, 7, P.N only by V = 1 and 2, P.lambda only by V = 2 and 6, P.mode only by V = 4. (A step can
change A.link by an interruption besides.) -/
def Obligations.OnlyNamedOrdersWriteTheAddressRegisters : Prop :=
  ∀ (i : Instr) (s t : State), exec i s = .next t →
    (t.a.link ≠ s.a.link → ∃ n x m, i = .a70 n x m) ∧
    (t.a.mod ≠ s.a.mod → ∃ n x m, i = .a66 n x m ∨ i = .a67 n x m) ∧
    (t.h.n1 ≠ s.h.n1 → ∃ a b c, ∃ o ∈ [Instr.h0_10_1, Instr.h0_10_2, Instr.h0_11_2, Instr.h0_10_3, Instr.h0_11_3,
      Instr.h0_10_6, Instr.h0_11_6, Instr.h0_10_7, Instr.h0_11_7], i = o a b c) ∧
    (t.p.n ≠ s.p.n → ∃ a b c, ∃ o ∈ [Instr.p010, Instr.p011, Instr.p012, Instr.p013, Instr.p014, Instr.p015,
        Instr.p016, Instr.p017, Instr.p020, Instr.p021, Instr.p022, Instr.p023,
        Instr.p024, Instr.p025, Instr.p026, Instr.p027], i = o a b c) ∧
    (t.p.lambda ≠ s.p.lambda → ∃ a b c, ∃ o ∈ [Instr.p020, Instr.p021, Instr.p022, Instr.p023, Instr.p024, Instr.p025,
        Instr.p026, Instr.p027, Instr.p060, Instr.p061, Instr.p062, Instr.p063,
        Instr.p064, Instr.p065, Instr.p066, Instr.p067], i = o a b c) ∧
    (t.p.mode ≠ s.p.mode → ∃ a b c, ∃ o ∈ [Instr.p040, Instr.p041, Instr.p042, Instr.p043, Instr.p044, Instr.p045,
        Instr.p046, Instr.p047], i = o a b c)

/-- In Outer mode every step is refused; Inner mode is left only by a V = 4 order, and for good (R404). With P.mode Outer: every
Poseidon order is refused with the reason Outer mode, whatever its word, and so is every step that fetches a word. An order
that answers a next state and leaves the mode Outer is one of P040 to P047. No step answers a state in Inner mode from a state
in Outer mode. -/
def Obligations.OuterModeIsRefusedForGood : Prop :=
  (∀ (i : Instr) (s : State), i.machine = .poseidon → s.p.mode = .outer → exec i s = .refused .poseidonOuterMode) ∧
  (∀ (s : State) (w : Order), s.running = .poseidon → s.p.mode = .outer → s.fetch .poseidon = .next w →
    step s = .refused .poseidonOuterMode) ∧
  (∀ (i : Instr) (s t : State), exec i s = .next t → s.p.mode = .inner → t.p.mode = .outer →
    ∃ a b c, ∃ o ∈ [Instr.p040, Instr.p041, Instr.p042, Instr.p043, Instr.p044, Instr.p045,
        Instr.p046, Instr.p047], i = o a b c) ∧
  (∀ s t : State, step s = .next t → s.p.mode = .outer → t.p.mode = .outer)

/-- An order whose operands the spec rules out is refused in every state (R111, R143, R344, R345, R346, R347). Every instruction
that is not well-formed (the field tests of R143 that do not need the configuration, X other than 4 or 7 in 52 and 53, a count
that overlaps the value in 54 and 55) is refused, whatever the state. -/
def Obligations.IllFormedOrdersAreRefused : Prop :=
  ∀ (i : Instr) (s : State), ¬ i.WellFormed → IsRefused (exec i s)

/-- P031, P033, P035, P037 and Groups 1 to 7 are refused by name; V = 7 with no 3 too (R110, R111, R112, R143). In Inner mode,
with any operands: the four unlisted codes of V = 3 are refused as not listed, every order of Groups 1 to 7 as outline only
with its group, every V = 7 order in which no field is 3 as not listed; and P074 and P075 with a field equal to 3 are refused
because collate at address 3 is not defined (the first test of R143), so that they are always refused. -/
def Obligations.PoseidonOrdersWithoutMeaning : Prop :=
  ∀ s : State, s.p.mode = .inner →
    (∀ a b c : Field5, ∀ o ∈ [Instr.p031, Instr.p033, Instr.p035, Instr.p037],
      exec (o a b c) s = .refused .poseidon03WOddNotListed) ∧
    (∀ rest : BitVec 21, ∀ o ∈ [(Instr.p1xx, 1#3), (Instr.p2xx, 2#3), (Instr.p3xx, 3#3), (Instr.p4xx, 4#3), (Instr.p5xx, 5#3),
      (Instr.p6xx, 6#3), (Instr.p7xx, 7#3)], exec (o.1 rest) s = .refused (.poseidonGroupOutlineOnly o.2)) ∧
    (∀ a b c : Field5, ¬(a = 3#5 ∨ b = 3#5 ∨ c = 3#5) → ∀ o ∈ [Instr.p070, Instr.p071, Instr.p072, Instr.p073, Instr.p074, Instr.p075,
        Instr.p076, Instr.p077],
      exec (o a b c) s = .refused .poseidon07WNoAddress3) ∧
    (∀ a b c : Field5, (a = 3#5 ∨ b = 3#5 ∨ c = 3#5) → ∀ o ∈ [Instr.p074, Instr.p075],
      exec (o a b c) s = .refused .collateAtAddress3)

/-- WAIT, the blank cells and the omitted Hermes tables are refused by name (R113, R238, R239, R240). In every state and with any
operands: H0.10.4 is refused because WAIT is not described, H0.11.4, H0.10.5 and H0.11.5 as blank cells, and every order of F
= 0 with I = 2 or 3 and of F = 1 to 7 as an omitted table. -/
def Obligations.HermesOrdersWithoutMeaning : Prop :=
  ∀ s : State,
    (∀ a b c : Field5, exec (.h0_10_4 a b c) s = .refused .hermesWaitNotDescribed) ∧
    (∀ a b c : Field5, ∀ o ∈ [Instr.h0_11_4, Instr.h0_10_5, Instr.h0_11_5], exec (o a b c) s = .refused .hermesBlankCell) ∧
    (∀ rest : BitVec 19, ∀ o ∈ [Instr.h0_2x, Instr.h0_3x], exec (o rest) s = .refused .hermesTableOmitted) ∧
    (∀ rest : BitVec 21, ∀ o ∈ [Instr.h1xx, Instr.h2xx, Instr.h3xx, Instr.h4xx, Instr.h5xx, Instr.h6xx, Instr.h7xx],
      exec (o rest) s = .refused .hermesTableOmitted)

/-- The ten Argus codes with no function and the installation inputs 33 to 37 are refused by name (R114, R334). In every state and
with any operands: 07, 17, 22, 23, 27, 47, 56, 57, 75, 76 are refused as unassigned, each with its code, and 33 to 37 as
installation-defined input, each with its code. -/
def Obligations.ArgusOrdersWithoutMeaning : Prop :=
  ∀ (s : State) (n : Addr13) (x : BitVec 3) (m : BitVec 2),
    (∀ o ∈ [(Instr.a07, 0o07#6), (Instr.a17, 0o17#6), (Instr.a22, 0o22#6), (Instr.a23, 0o23#6), (Instr.a27, 0o27#6),
      (Instr.a47, 0o47#6), (Instr.a56, 0o56#6), (Instr.a57, 0o57#6), (Instr.a75, 0o75#6), (Instr.a76, 0o76#6)],
      exec (o.1 n x m) s = .refused (.argusUnassigned o.2)) ∧
    (∀ o ∈ [(Instr.a33, 0o33#6), (Instr.a34, 0o34#6), (Instr.a35, 0o35#6), (Instr.a36, 0o36#6), (Instr.a37, 0o37#6)],
      exec (o.1 n x m) s = .refused (.argusInstallationInput o.2))

/-- Where the configuration supplies no A_MULROUND, A_DIV or A_IOREG, the orders that need it are refused (R312, R314, R315, R316,
R330). Without A_MULROUND, 21 is refused; without A_DIV, 24, 25 and 26 are refused, each with its code; without A_IOREG, 30,
31 and 32 are refused. (SuppliedProductsAndQuotients and ArgusInput say what they do with it.) -/
def Obligations.ArgusOrdersWithoutConfiguration : Prop :=
  ∀ (s : State) (n : Addr13) (x : BitVec 3) (m : BitVec 2),
    (s.cfg.aMulRound = false → exec (.a21 n x m) s = .refused .argusRoundingNotDefined) ∧
    (s.cfg.aDiv = false → ∀ o ∈ [(Instr.a24, 0o24#6), (Instr.a25, 0o25#6), (Instr.a26, 0o26#6)],
      exec (o.1 n x m) s = .refused (.argusDivisionNotDefined o.2)) ∧
    (s.cfg.aIoReg = none → ∀ o ∈ [Instr.a30, Instr.a31, Instr.a32], exec (o n x m) s = .refused .argusInputNotPlaced)

/-- The functions of W and the Argus functions, as arithmetic modulo 2^w and bit by bit (R16, R141, R270). For words b and c of w
bits: the Poseidon functions of W are the sum and the difference modulo 2^w, and on each bit below w exclusive or,
equivalence, and, and-not; the Argus functions are copy, sum, negation, difference both ways modulo 2^w, and, exclusive or. -/
def Obligations.WordFunctionsAreTheSpecs : Prop :=
  ∀ w b c : Nat, b < 2 ^ w → c < 2 ^ w →
    (∀ f ∈ [PFunction.add, PFunction.addCollate], f.apply w b c = (b + c) % 2 ^ w) ∧
    (∀ f ∈ [PFunction.sub, PFunction.subCollate], f.apply w b c = (b + (2 ^ w - c)) % 2 ^ w) ∧
    (∀ k < w,
      (PFunction.xor.apply w b c).testBit k = (b.testBit k != c.testBit k) ∧
      (PFunction.xorNot.apply w b c).testBit k = (b.testBit k == c.testBit k) ∧
      (PFunction.and.apply w b c).testBit k = (b.testBit k && c.testBit k) ∧
      (PFunction.andNot.apply w b c).testBit k = (b.testBit k && !c.testBit k) ∧
      (AFunction.and.apply w b c).testBit k = (b.testBit k && c.testBit k) ∧
      (AFunction.xor.apply w b c).testBit k = (b.testBit k != c.testBit k)) ∧
    AFunction.copy.apply w b c = c ∧ AFunction.add.apply w b c = (b + c) % 2 ^ w ∧
    AFunction.negate.apply w b c = (2 ^ w - c) % 2 ^ w ∧ AFunction.sub.apply w b c = (b + (2 ^ w - c)) % 2 ^ w ∧
    AFunction.subReverse.apply w b c = (c + (2 ^ w - b)) % 2 ^ w ∧
    (∀ f : PFunction, f.apply w b c < 2 ^ w) ∧ (∀ f : AFunction, f.apply w b c < 2 ^ w)

/-- Sign is the top bit, and an overflow test is true exactly when the wrapped result is not the true one (R13, R16, R142, R271).
For words of w >= 1 bits: s(v) is negative exactly when the top bit is 1, and lies in -2^(w-1) to 2^(w-1) - 1; ovf_add,
ovf_sub and ovf_neg are false exactly when the signed value of the wrapped result is the true sum, difference or negation. -/
def Obligations.OverflowIsAWrongSignedResult : Prop :=
  ∀ w a b : Nat, 1 ≤ w → a < 2 ^ w → b < 2 ^ w →
    (sval w a < 0 ↔ a.testBit (w - 1) = true) ∧
    -((2 ^ (w - 1) : Nat) : Int) ≤ sval w a ∧ sval w a < ((2 ^ (w - 1) : Nat) : Int) ∧
    (ovfAdd w a b = false ↔ sval w (addW w a b) = sval w a + sval w b) ∧
    (ovfSub w a b = false ↔ sval w (subW w a b) = sval w a - sval w b) ∧
    (ovfNeg w a = false ↔ sval w (negW w a) = -sval w a)

/-- P000 to P007 and P040 to P047: the function of W of b and c to a, C.R. and OVR; V = 4 then Outer mode (R140, R141, R142, R144,
R145, R146, R147, R148, R149, R150, R151, R158). In Inner mode, with three plain fields: each order answers the state in which
P.R[A] holds the function of W of the old P.R[B] and P.R[C], C.R. and OVR follow R142 (draws, recorded, after a logical order)
and pc is the next address; P04W besides sets the mode to Outer. Nothing else changes. -/
def Obligations.PoseidonFunctionOrders : Prop :=
  ∀ (s : State) (a b c : Field5), s.p.mode = .inner → PlainFields s.cfg a b c →
    (∀ o ∈ [(Instr.p000, PFunction.add), (Instr.p001, PFunction.sub), (Instr.p002, PFunction.xor),
        (Instr.p003, PFunction.xorNot), (Instr.p004, PFunction.addCollate), (Instr.p005, PFunction.subCollate),
        (Instr.p006, PFunction.and), (Instr.p007, PFunction.andNot)],
      exec (o.1 a b c) s = .next (s.withP (s.p.afterFunction s.cfg o.2 a (s.p.readR b) (s.p.readR c)))) ∧
    (∀ o ∈ [(Instr.p040, PFunction.add), (Instr.p041, PFunction.sub), (Instr.p042, PFunction.xor),
        (Instr.p043, PFunction.xorNot), (Instr.p044, PFunction.addCollate), (Instr.p045, PFunction.subCollate),
        (Instr.p046, PFunction.and), (Instr.p047, PFunction.andNot)],
      exec (o.1 a b c) s = .next (s.withP { s.p.afterFunction s.cfg o.2 a (s.p.readR b) (s.p.readR c) with mode := .outer }))

/-- P010 to P017, P020 to P027, P060 to P067: the function of W, then the counts in N and lambda (R140, R142, R152, R153, R160,
R165, R167). In Inner mode, with three plain fields: each order has the effect of the V = 0 order of its W, and V = 1 counts
N; V = 2 counts N and lambda and is followed by the order at L if lambda was negative before the count; V = 6 counts and tests
lambda alone. Nothing else changes. -/
def Obligations.PoseidonCountingOrders : Prop :=
  ∀ (s : State) (a b c : Field5), s.p.mode = .inner → PlainFields s.cfg a b c →
    (∀ o ∈ [(Instr.p010, PFunction.add), (Instr.p011, PFunction.sub), (Instr.p012, PFunction.xor),
        (Instr.p013, PFunction.xorNot), (Instr.p014, PFunction.addCollate), (Instr.p015, PFunction.subCollate),
        (Instr.p016, PFunction.and), (Instr.p017, PFunction.andNot)],
      exec (o.1 a b c) s = .next (s.withP { s.p.afterFunction s.cfg o.2 a (s.p.readR b) (s.p.readR c) with n := s.p.countedN })) ∧
    (∀ o ∈ [(Instr.p020, PFunction.add), (Instr.p021, PFunction.sub), (Instr.p022, PFunction.xor),
        (Instr.p023, PFunction.xorNot), (Instr.p024, PFunction.addCollate), (Instr.p025, PFunction.subCollate),
        (Instr.p026, PFunction.and), (Instr.p027, PFunction.andNot)],
      exec (o.1 a b c) s = .next (s.withP { s.p.afterFunction s.cfg o.2 a (s.p.readR b) (s.p.readR c) with
        n := s.p.countedN, lambda := s.p.lambda + 1, pc := s.p.lambdaSuccessor })) ∧
    (∀ o ∈ [(Instr.p060, PFunction.add), (Instr.p061, PFunction.sub), (Instr.p062, PFunction.xor),
        (Instr.p063, PFunction.xorNot), (Instr.p064, PFunction.addCollate), (Instr.p065, PFunction.subCollate),
        (Instr.p066, PFunction.and), (Instr.p067, PFunction.andNot)],
      exec (o.1 a b c) s = .next (s.withP { s.p.afterFunction s.cfg o.2 a (s.p.readR b) (s.p.readR c) with
        lambda := s.p.lambda + 1, pc := s.p.lambdaSuccessor }))

/-- The counts in N and lambda, modulo 2^13, and the jump to L, as numbers (R165, R167). Every V = 1 and V = 2 order that answers
a next state leaves N at N + 2 if Q10 is set, else N + 1, modulo 8192, and Q as it was. Every V = 2 and V = 6 order that
answers one leaves lambda at lambda + 1 modulo 8192, and pc at L if bit 12 of the old lambda was 1, else at pc + 1 modulo
8192. -/
def Obligations.PoseidonCounts : Prop :=
  ∀ (s t : State) (a b c : Field5),
    (∀ o ∈ [Instr.p010, Instr.p011, Instr.p012, Instr.p013, Instr.p014, Instr.p015,
        Instr.p016, Instr.p017, Instr.p020, Instr.p021, Instr.p022, Instr.p023,
        Instr.p024, Instr.p025, Instr.p026, Instr.p027],
      exec (o a b c) s = .next t →
        t.p.n.toNat = (s.p.n.toNat + if s.p.q.getD 10 false then 2 else 1) % 8192 ∧ t.p.q = s.p.q) ∧
    (∀ o ∈ [Instr.p020, Instr.p021, Instr.p022, Instr.p023, Instr.p024, Instr.p025,
        Instr.p026, Instr.p027, Instr.p060, Instr.p061, Instr.p062, Instr.p063,
        Instr.p064, Instr.p065, Instr.p066, Instr.p067],
      exec (o a b c) s = .next t →
        t.p.lambda.toNat = (s.p.lambda.toNat + 1) % 8192 ∧
        t.p.pc.toNat = if 4096 ≤ s.p.lambda.toNat then s.p.l.toNat else (s.p.pc.toNat + 1) % 8192)

/-- P030, P032, P034, P036: sum, difference or null order by the recorded sign (R142, R154, R155, R156, R157). In Inner mode, with
three plain fields: P030 adds when CR.neg is clear and subtracts when it is set; P032 adds or is null; P034 subtracts or adds;
P036 subtracts or is null. A null order changes pc alone. -/
def Obligations.PoseidonConditionalOrders : Prop :=
  ∀ (s : State) (a b c : Field5), s.p.mode = .inner → PlainFields s.cfg a b c →
    let sum := s.p.afterFunction s.cfg .add a (s.p.readR b) (s.p.readR c)
    let difference := s.p.afterFunction s.cfg .sub a (s.p.readR b) (s.p.readR c)
    let null := { s.p with pc := s.p.pc + 1 }
    exec (.p030 a b c) s = .next (s.withP (if s.p.crNeg then difference else sum)) ∧
    exec (.p032 a b c) s = .next (s.withP (if s.p.crNeg then null else sum)) ∧
    exec (.p034 a b c) s = .next (s.withP (if s.p.crNeg then sum else difference)) ∧
    exec (.p036 a b c) s = .next (s.withP (if s.p.crNeg then null else difference))

/-- P050 to P057 with B and C other than 2: the function of W, then the order at N (R140, R142, R159). In Inner mode, with three
plain fields (so neither B nor C is 2): each order has the effect of the V = 0 order of its W, and the next order is the one
at N. That it completes also where N is at or above P_FPS_SIZE, the next fetch being stuck, is the model's reading of the
outcome stuck that R159 lists (DEDUCED, log 12). -/
def Obligations.PoseidonFastJump : Prop :=
  ∀ (s : State) (a b c : Field5), s.p.mode = .inner → PlainFields s.cfg a b c →
    ∀ o ∈ [(Instr.p050, PFunction.add), (Instr.p051, PFunction.sub), (Instr.p052, PFunction.xor),
        (Instr.p053, PFunction.xorNot), (Instr.p054, PFunction.addCollate), (Instr.p055, PFunction.subCollate),
        (Instr.p056, PFunction.and), (Instr.p057, PFunction.andNot)],
      exec (o.1 a b c) s = .next (s.withP { s.p.afterFunction s.cfg o.2 a (s.p.readR b) (s.p.readR c) with pc := s.p.n })

/-- P050 to P057 with B or C equal to 2 read P.FPS at N; stuck outside it, refused unless words are 24 bits (R71, R140, R142,
R159, R440). In Inner mode, with A plain, and B and C each plain or 2, at least one of them 2: where P_W is 24 and N lies in
the fast program store, the order takes the word of P.FPS at N for each field equal to 2 and is followed by the next order;
where P_W is not 24 it is refused; where N is at or above P_FPS_SIZE it is stuck. A word that nothing has loaded reads as a
recorded draw, the model's choice of R440's two treatments (DESIGN CHOICE, log 5); that with B = C = 2 it is one draw and one
event for both operands, where R159 reads the word twice, is the model's reading (DEDUCED, log 12). Where P_W is not 24 and N
is outside, that the refusal comes before stuck is the model's choice (DESIGN CHOICE, log 21). -/
def Obligations.PoseidonFastRead : Prop :=
  ∀ (s : State) (a b c : Field5), s.p.mode = .inner → (a ≠ 2#5 ∧ a ≠ 3#5 ∧ isPlain s.cfg a = true) →
    (b = 2#5 ∨ b ≠ 3#5 ∧ isPlain s.cfg b = true) → (c = 2#5 ∨ c ≠ 3#5 ∧ isPlain s.cfg c = true) → (b = 2#5 ∨ c = 2#5) →
    ∀ o ∈ [(Instr.p050, PFunction.add), (Instr.p051, PFunction.sub), (Instr.p052, PFunction.xor),
        (Instr.p053, PFunction.xorNot), (Instr.p054, PFunction.addCollate), (Instr.p055, PFunction.subCollate),
        (Instr.p056, PFunction.and), (Instr.p057, PFunction.andNot)],
      (s.cfg.pW = 24 → s.p.n.toNat < s.cfg.pFpsSize →
        exec (o.1 a b c) s = .next (s.withP ((s.p.record s.p.fpsWord.events).afterFunction s.cfg o.2 a
          (if b = 2#5 then s.p.fpsWord.val else s.p.readR b) (if c = 2#5 then s.p.fpsWord.val else s.p.readR c)))) ∧
      (s.cfg.pW = 24 → s.cfg.pFpsSize ≤ s.p.n.toNat → exec (o.1 a b c) s = .fault .poseidonFpsOutside) ∧
      (s.cfg.pW ≠ 24 → exec (o.1 a b c) s = .refused .fpsWordIsNotPW)

/-- P070 to P073, P076, P077: punch for A = 3, tape reader for B = 3, Handswitches for C = 3 (R140, R142, R161, R162, R163, R164,
R166). In Inner mode, with at least one field equal to 3 and each field 3 or plain: b is the next tape character on its digits
for B = 3, c the Handswitches for C = 3, each a recorded draw; the function of W of them goes to the punch (one character, no
location written) for A = 3, else to P.R[A]; C.R. and OVR follow R142, and the next order follows. Which character a word
punches, and which word a character reads as, with P_DIGIT0_LSB false is the model's reading (DEDUCED, log 11); the order of
the draws in the record is its choice (DESIGN CHOICE, log 22). -/
def Obligations.PoseidonDeviceOrders : Prop :=
  ∀ (s : State) (a b c : Field5), s.p.mode = .inner → (a = 3#5 ∨ b = 3#5 ∨ c = 3#5) →
    (a = 3#5 ∨ a ≠ 2#5 ∧ isPlain s.cfg a = true) → (b = 3#5 ∨ b ≠ 2#5 ∧ isPlain s.cfg b = true) →
    (c = 3#5 ∨ c ≠ 2#5 ∧ isPlain s.cfg c = true) →
    let bv := if b = 3#5 then tapeWord s.cfg (Config.drawnTapeCharacter s.p.history.length) else s.p.readR b
    let cv := if c = 3#5 then Config.drawnHandswitches s.p.history.length % 2 ^ s.cfg.pW else s.p.readR c
    let p1 := s.p.record
      ((if b = 3#5 then [.tapeCharacter (Config.drawnTapeCharacter s.p.history.length)] else []) ++
        (if c = 3#5 then [.handswitches (Config.drawnHandswitches s.p.history.length % 2 ^ s.cfg.pW)] else []))
    ∀ o ∈ [(Instr.p070, PFunction.add), (Instr.p071, PFunction.sub), (Instr.p072, PFunction.xor),
        (Instr.p073, PFunction.xorNot), (Instr.p076, PFunction.and), (Instr.p077, PFunction.andNot)],
      exec (o.1 a b c) s = .next (s.withP
        (if a = 3#5 then
          { p1.afterFunction s.cfg o.2 a bv cv with
            r := s.p.r, punch := s.p.punch ++ [punchedCharacter s.cfg (o.2.apply s.cfg.pW bv cv)] }
        else p1.afterFunction s.cfg o.2 a bv cv))

/-- A tape character lies on digits 0 to 4 with zeros elsewhere, and those digits are what the punch is sent (R162, R163, R166).
With P_DIGIT0_LSB true digits 0 to 4 are bits 4 to 0, with it false bits P_W - 1 to P_W - 5: for P_W >= 5 a character read is
a word of P_W bits that is zero outside those bits, and punching that word sends the character; punching any word r sends r
modulo 32, respectively r / 2^(P_W - 5) modulo 32. That with P_DIGIT0_LSB false the five bits are read as one number in their
order in the word is DEDUCED (log 11). -/
def Obligations.TapeCharacterDigits : Prop :=
  ∀ (c : Config) (ch : BitVec 5), 5 ≤ c.pW →
    (c.pDigit0Lsb = true → tapeWord c ch = ch.toNat) ∧
    (c.pDigit0Lsb = false → tapeWord c ch % 2 ^ (c.pW - 5) = 0 ∧ tapeWord c ch / 2 ^ (c.pW - 5) = ch.toNat) ∧
    tapeWord c ch < 2 ^ c.pW ∧ punchedCharacter c (tapeWord c ch) = ch ∧
    (∀ r, c.pDigit0Lsb = true → (punchedCharacter c r).toNat = r % 32) ∧
    (∀ r, c.pDigit0Lsb = false → (punchedCharacter c r).toNat = r / 2 ^ (c.pW - 5) % 32)

/-- The tests of R143 on the address fields, in their order (R143). In Inner mode, for every Group 0 order the table lists:
collate (W = 4, 5) with a field 3; a field 3 outside V = 7; V = 7 with no field 3; A = 2; B or C = 2 outside V = 5; a
remaining field outside P_PLAIN: each is refused with its own reason, the tests taken from top to bottom. -/
def Obligations.PoseidonAddressTests : Prop :=
  ∀ (s : State) (a b c : Field5), s.p.mode = .inner →
    let has3 := a = 3#5 ∨ b = 3#5 ∨ c = 3#5
    let plain := plainOrSpecial s.cfg a = true ∧ plainOrSpecial s.cfg b = true ∧ plainOrSpecial s.cfg c = true
    (has3 → ∀ o ∈ [Instr.p004, Instr.p005, Instr.p014, Instr.p015, Instr.p024, Instr.p025,
        Instr.p034, Instr.p044, Instr.p045, Instr.p054, Instr.p055, Instr.p064,
        Instr.p065, Instr.p074, Instr.p075],
      exec (o a b c) s = .refused .collateAtAddress3) ∧
    (has3 → ∀ o ∈ [Instr.p000, Instr.p001, Instr.p002, Instr.p003, Instr.p006, Instr.p007,
        Instr.p010, Instr.p011, Instr.p012, Instr.p013, Instr.p016, Instr.p017,
        Instr.p020, Instr.p021, Instr.p022, Instr.p023, Instr.p026, Instr.p027,
        Instr.p030, Instr.p032, Instr.p036, Instr.p040, Instr.p041, Instr.p042,
        Instr.p043, Instr.p046, Instr.p047, Instr.p050, Instr.p051, Instr.p052,
        Instr.p053, Instr.p056, Instr.p057, Instr.p060, Instr.p061, Instr.p062,
        Instr.p063, Instr.p066, Instr.p067],
      exec (o a b c) s = .refused .address3OutsideV7) ∧
    (¬has3 → ∀ o ∈ [Instr.p070, Instr.p071, Instr.p072, Instr.p073, Instr.p074, Instr.p075,
        Instr.p076, Instr.p077],
      exec (o a b c) s = .refused .poseidon07WNoAddress3) ∧
    (¬has3 → a = 2#5 → ∀ o ∈ [Instr.p000, Instr.p001, Instr.p002, Instr.p003, Instr.p004, Instr.p005,
        Instr.p006, Instr.p007, Instr.p010, Instr.p011, Instr.p012, Instr.p013,
        Instr.p014, Instr.p015, Instr.p016, Instr.p017, Instr.p020, Instr.p021,
        Instr.p022, Instr.p023, Instr.p024, Instr.p025, Instr.p026, Instr.p027,
        Instr.p030, Instr.p032, Instr.p034, Instr.p036, Instr.p040, Instr.p041,
        Instr.p042, Instr.p043, Instr.p044, Instr.p045, Instr.p046, Instr.p047,
        Instr.p050, Instr.p051, Instr.p052, Instr.p053, Instr.p054, Instr.p055,
        Instr.p056, Instr.p057, Instr.p060, Instr.p061, Instr.p062, Instr.p063,
        Instr.p064, Instr.p065, Instr.p066, Instr.p067],
      exec (o a b c) s = .refused .address2AsDestination) ∧
    (has3 → a = 2#5 → ∀ o ∈ [Instr.p070, Instr.p071, Instr.p072, Instr.p073, Instr.p076, Instr.p077],
      exec (o a b c) s = .refused .address2AsDestination) ∧
    (¬has3 → a ≠ 2#5 → (b = 2#5 ∨ c = 2#5) → ∀ o ∈ [Instr.p000, Instr.p001, Instr.p002, Instr.p003, Instr.p004, Instr.p005,
        Instr.p006, Instr.p007, Instr.p010, Instr.p011, Instr.p012, Instr.p013,
        Instr.p014, Instr.p015, Instr.p016, Instr.p017, Instr.p020, Instr.p021,
        Instr.p022, Instr.p023, Instr.p024, Instr.p025, Instr.p026, Instr.p027,
        Instr.p030, Instr.p032, Instr.p034, Instr.p036, Instr.p040, Instr.p041,
        Instr.p042, Instr.p043, Instr.p044, Instr.p045, Instr.p046, Instr.p047,
        Instr.p060, Instr.p061, Instr.p062, Instr.p063, Instr.p064, Instr.p065,
        Instr.p066, Instr.p067],
      exec (o a b c) s = .refused .address2OutsideV5) ∧
    (has3 → a ≠ 2#5 → (b = 2#5 ∨ c = 2#5) → ∀ o ∈ [Instr.p070, Instr.p071, Instr.p072, Instr.p073, Instr.p076, Instr.p077],
      exec (o a b c) s = .refused .address2OutsideV5) ∧
    (¬has3 → a ≠ 2#5 → ¬(b = 2#5 ∨ c = 2#5) → ¬plain → ∀ o ∈ [Instr.p000, Instr.p001, Instr.p002, Instr.p003, Instr.p004, Instr.p005,
        Instr.p006, Instr.p007, Instr.p010, Instr.p011, Instr.p012, Instr.p013,
        Instr.p014, Instr.p015, Instr.p016, Instr.p017, Instr.p020, Instr.p021,
        Instr.p022, Instr.p023, Instr.p024, Instr.p025, Instr.p026, Instr.p027,
        Instr.p030, Instr.p032, Instr.p034, Instr.p036, Instr.p040, Instr.p041,
        Instr.p042, Instr.p043, Instr.p044, Instr.p045, Instr.p046, Instr.p047,
        Instr.p060, Instr.p061, Instr.p062, Instr.p063, Instr.p064, Instr.p065,
        Instr.p066, Instr.p067],
      exec (o a b c) s = .refused .addressNotPlain) ∧
    (¬has3 → a ≠ 2#5 → ¬plain → ∀ o ∈ [Instr.p050, Instr.p051, Instr.p052, Instr.p053, Instr.p054, Instr.p055,
        Instr.p056, Instr.p057],
      exec (o a b c) s = .refused .addressNotPlain) ∧
    (has3 → a ≠ 2#5 → ¬(b = 2#5 ∨ c = 2#5) → ¬plain → ∀ o ∈ [Instr.p070, Instr.p071, Instr.p072, Instr.p073, Instr.p076, Instr.p077],
      exec (o a b c) s = .refused .addressNotPlain)

/-- The Hermes sum: exact when it fits, else refused or wrapped as H_OVERFLOW says; the tests are strict (R201). For words u and v
of H_W >= 1 bits: a true sum within -2^(H_W-1) to 2^(H_W-1) - 1 is answered, with that signed value; any other is refused with
H_OVERFLOW = refuse and is answered modulo 2^H_W with wrap. The tests > 0 and < 0 are on the signed result, and both are false
for 0. -/
def Obligations.HermesSum : Prop :=
  ∀ (c : Config) (u v : Nat), 1 ≤ c.hW →
    let t := sval c.hW u + sval c.hW v
    let inRange := -((2 ^ (c.hW - 1) : Nat) : Int) ≤ t ∧ t ≤ ((2 ^ (c.hW - 1) : Nat) : Int) - 1
    (inRange → ∃ r, sumH c u v = .next r ∧ sval c.hW r = t) ∧
    (¬inRange → c.hOverflow = .refuse → sumH c u v = .refused .hermesSumOverflows) ∧
    (¬inRange → c.hOverflow = .wrap → sumH c u v = .next (t % ((2 ^ c.hW : Nat) : Int)).toNat) ∧
    (∀ r, HTest.positive.holds c.hW r = true ↔ 0 < sval c.hW r) ∧
    (∀ r, HTest.negative.holds c.hW r = true ↔ sval c.hW r < 0) ∧
    HTest.positive.holds c.hW 0 = false ∧ HTest.negative.holds c.hW 0 = false

/-- H0.00.0 to H0.01.3: the jump is made if the sum of VB and the third operand is > 0, or < 0 (R200, R201, R202, R210, R211,
R212, R213, R214, R215, R216, R217, R440). With a store of at least 32 words: where the sum is allowed, the order answers the
state in which pc is the jump address (through VA, or A places relative) if the test holds of the sum, else the next address
modulo 2^H_AW; nothing is written but pc and the record of draws. Where the sum does not fit and H_OVERFLOW is refuse, it is
refused. Where a word it reads is unwritten, it completes by a recorded draw, the model's choice of R440's two treatments
(DESIGN CHOICE, log 5); the order of the draws in the record is the model's choice (DESIGN CHOICE, log 22). Where H_AW exceeds
H_W, that an address taken from a word is its unsigned value is the model's choice (DESIGN CHOICE, log 24). -/
def Obligations.HermesTestingJumps : Prop :=
  ∀ (s : State) (a b c : Field5), 32 ≤ s.cfg.hStoreSize →
    ∀ o ∈ [(Instr.h0_00_0, HJump.throughVA, HThird.store, HTest.positive),
        (Instr.h0_01_0, HJump.throughVA, HThird.literal, HTest.positive),
        (Instr.h0_00_1, HJump.throughVA, HThird.store, HTest.negative),
        (Instr.h0_01_1, HJump.throughVA, HThird.literal, HTest.negative),
        (Instr.h0_00_2, HJump.relative, HThird.store, HTest.positive),
        (Instr.h0_01_2, HJump.relative, HThird.literal, HTest.positive),
        (Instr.h0_00_3, HJump.relative, HThird.store, HTest.negative),
        (Instr.h0_01_3, HJump.relative, HThird.literal, HTest.negative)],
      let vb := s.h.word s.cfg 1 b.toNat
      let third := s.h.thirdWord s.cfg o.2.2.1 c
      let t := trueSum s.cfg vb third
      let d := s.h.jumpAddress s.cfg o.2.1 a
      (SumAllowed s.cfg t →
        exec (o.1 a b c) s = .next (s.withH
          (if o.2.2.2.holds s.cfg.hW (trunc s.cfg.hW t) then
            { s.h with pc := d.val, history := s.h.history ++ (vb.events ++ third.events ++ d.events) }
          else
            { s.h with pc := (s.h.pc + 1) % 2 ^ s.cfg.hAW, history := s.h.history ++ (vb.events ++ third.events) }))) ∧
      (SumRefused s.cfg t → exec (o.1 a b c) s = .refused .hermesSumOverflows)

/-- H0.00.4 to H0.01.7: VB takes the sum, and the jump is made if it is > 0, or < 0 (R200, R201, R202, R218, R219, R220, R221,
R222, R223, R224, R225, R440). With a store of at least 32 words: where the sum is allowed, H.V[B] takes it, and pc is the
jump address (read before the store) if the test holds of the sum, else the next address modulo 2^H_AW; nothing else changes
but the record of draws. Where the sum does not fit and H_OVERFLOW is refuse, it is refused. Where a word it reads is
unwritten, it completes by a recorded draw, the model's choice of R440's two treatments (DESIGN CHOICE, log 5); the order of
the draws in the record is the model's choice (DESIGN CHOICE, log 22). Where H_AW exceeds H_W, that an address taken from a
word is its unsigned value is the model's choice (DESIGN CHOICE, log 24). -/
def Obligations.HermesStoringJumps : Prop :=
  ∀ (s : State) (a b c : Field5), 32 ≤ s.cfg.hStoreSize →
    ∀ o ∈ [(Instr.h0_00_4, HJump.throughVA, HThird.store, HTest.positive),
        (Instr.h0_01_4, HJump.throughVA, HThird.literal, HTest.positive),
        (Instr.h0_00_5, HJump.throughVA, HThird.store, HTest.negative),
        (Instr.h0_01_5, HJump.throughVA, HThird.literal, HTest.negative),
        (Instr.h0_00_6, HJump.relative, HThird.store, HTest.positive),
        (Instr.h0_01_6, HJump.relative, HThird.literal, HTest.positive),
        (Instr.h0_00_7, HJump.relative, HThird.store, HTest.negative),
        (Instr.h0_01_7, HJump.relative, HThird.literal, HTest.negative)],
      let vb := s.h.word s.cfg 1 b.toNat
      let third := s.h.thirdWord s.cfg o.2.2.1 c
      let t := trueSum s.cfg vb third
      let d := s.h.jumpAddress s.cfg o.2.1 a
      (SumAllowed s.cfg t →
        exec (o.1 a b c) s = .next (s.withH { s.h with
          v := Cells.write s.h.v b.toNat (trunc s.cfg.hW t)
          pc := if o.2.2.2.holds s.cfg.hW (trunc s.cfg.hW t) then d.val else (s.h.pc + 1) % 2 ^ s.cfg.hAW
          history := s.h.history ++ (d.events ++ (vb.events ++ third.events)) })) ∧
      (SumRefused s.cfg t → exec (o.1 a b c) s = .refused .hermesSumOverflows)

/-- H0.10.0, H0.11.0, S = 6, S = 7 and H0.11.2, H0.11.3: VA takes the sum, N1 stays, is stepped or named (R200, R201, R230, R231,
R235, R237, R242, R243, R244, R245, R440). With a store of at least 32 words: where the sum is allowed, H.V[A] takes the sum
of VB and VC, or of VB and the literal C; N1 is unchanged (S = 0), stepped up (S = 6) or down (S = 7) modulo 2^H_AW, or left
holding the field B (H0.11.2) or C (H0.11.3); pc is the next address. Where the sum does not fit and H_OVERFLOW is refuse, it
is refused. Where a word it reads is unwritten, it completes by a recorded draw, the model's choice of R440's two treatments
(DESIGN CHOICE, log 5); the order of the draws in the record is the model's choice (DESIGN CHOICE, log 22). -/
def Obligations.HermesSums : Prop :=
  ∀ (s : State) (a b c : Field5), 32 ≤ s.cfg.hStoreSize →
    ∀ o ∈ [(Instr.h0_10_0, HThird.store, s.h.n1), (Instr.h0_11_0, HThird.literal, s.h.n1),
        (Instr.h0_10_6, HThird.store, trunc s.cfg.hAW ((s.h.n1 : Int) + 1)),
        (Instr.h0_11_6, HThird.literal, trunc s.cfg.hAW ((s.h.n1 : Int) + 1)),
        (Instr.h0_10_7, HThird.store, trunc s.cfg.hAW ((s.h.n1 : Int) - 1)),
        (Instr.h0_11_7, HThird.literal, trunc s.cfg.hAW ((s.h.n1 : Int) - 1)),
        (Instr.h0_11_2, HThird.store, b.toNat % 2 ^ s.cfg.hAW), (Instr.h0_11_3, HThird.store, c.toNat % 2 ^ s.cfg.hAW)],
      let vb := s.h.word s.cfg 1 b.toNat
      let third := s.h.thirdWord s.cfg o.2.1 c
      let t := trueSum s.cfg vb third
      (SumAllowed s.cfg t →
        exec (o.1 a b c) s = .next (s.withH { s.h with
          v := Cells.write s.h.v a.toNat (trunc s.cfg.hW t)
          n1 := o.2.2
          pc := (s.h.pc + 1) % 2 ^ s.cfg.hAW
          history := s.h.history ++ (vb.events ++ third.events) })) ∧
      (SumRefused s.cfg t → exec (o.1 a b c) s = .refused .hermesSumOverflows)

/-- H0.10.1 and H0.11.1: the sum is stored through the address in VA, or at N1 + A; stuck outside the store (R75, R77, R201, R232,
R233, R440). With a store of at least 32 words and an allowed sum of VB and VC: H0.10.1 sets N1 to the low H_AW bits of VA and
stores the sum at that address; H0.11.1 stores it at N1 + A modulo 2^H_AW and leaves N1; pc is the next address. Each is stuck
where that address is at or above H_STORE_SIZE. Where the sum does not fit and H_OVERFLOW is refuse, both are refused. Where a
word it reads is unwritten (the address taken from VA included), it completes by a recorded draw, the model's choice of R440's
two treatments (DESIGN CHOICE, log 5); the order of the draws in the record is the model's choice (DESIGN CHOICE, log 22).
Where H_AW exceeds H_W, that an address taken from a word is its unsigned value is the model's choice (DESIGN CHOICE, log 24). -/
def Obligations.HermesStoresThroughN1 : Prop :=
  ∀ (s : State) (a b c : Field5), 32 ≤ s.cfg.hStoreSize →
    let va := s.h.word s.cfg 0 a.toNat
    let vb := s.h.word s.cfg 1 b.toNat
    let vc := s.h.word s.cfg 2 c.toNat
    let t := trueSum s.cfg vb vc
    let through := va.val % 2 ^ s.cfg.hAW
    let offset := (s.h.n1 + extend5 s.cfg.hAoffExt s.cfg.hAW a) % 2 ^ s.cfg.hAW
    (SumAllowed s.cfg t → through < s.cfg.hStoreSize →
      exec (.h0_10_1 a b c) s = .next (s.withH { s.h with
        v := Cells.write s.h.v through (trunc s.cfg.hW t)
        n1 := through
        pc := (s.h.pc + 1) % 2 ^ s.cfg.hAW
        history := s.h.history ++ (vb.events ++ vc.events ++ va.events) })) ∧
    (SumAllowed s.cfg t → s.cfg.hStoreSize ≤ through → exec (.h0_10_1 a b c) s = .fault .hermesStoreOutside) ∧
    (SumAllowed s.cfg t → offset < s.cfg.hStoreSize →
      exec (.h0_11_1 a b c) s = .next (s.withH { s.h with
        v := Cells.write s.h.v offset (trunc s.cfg.hW t)
        pc := (s.h.pc + 1) % 2 ^ s.cfg.hAW
        history := s.h.history ++ (vb.events ++ vc.events) })) ∧
    (SumAllowed s.cfg t → s.cfg.hStoreSize ≤ offset → exec (.h0_11_1 a b c) s = .fault .hermesStoreOutside) ∧
    (SumRefused s.cfg t →
      exec (.h0_10_1 a b c) s = .refused .hermesSumOverflows ∧ exec (.h0_11_1 a b c) s = .refused .hermesSumOverflows)

/-- H0.10.2 and H0.10.3: N1 takes the address in VB or VC, and VA the sum with the word it names (R75, R77, R200, R201, R234,
R236, R440). With a store of at least 32 words: H0.10.2 sets N1 to the low H_AW bits of VB and VA to VN1 + VC; H0.10.3 sets N1
from VC and VA to VB + VN1; pc is the next address. Each is stuck where N1 would be at or above H_STORE_SIZE, and refused
where the sum does not fit and H_OVERFLOW is refuse. Where a word it reads is unwritten (the address taken from VB or VC
included), it completes by a recorded draw, the model's choice of R440's two treatments (DESIGN CHOICE, log 5); the order of
the draws in the record is the model's choice (DESIGN CHOICE, log 22). Where H_AW exceeds H_W, that an address taken from a
word is its unsigned value is the model's choice (DESIGN CHOICE, log 24). -/
def Obligations.HermesLoadsThroughN1 : Prop :=
  ∀ (s : State) (a b c : Field5), 32 ≤ s.cfg.hStoreSize →
    let vb := s.h.word s.cfg 1 b.toNat
    let vc := s.h.word s.cfg 2 c.toNat
    let nb := vb.val % 2 ^ s.cfg.hAW
    let nc := vc.val % 2 ^ s.cfg.hAW
    let vnb := s.h.word s.cfg 3 nb
    let vnc := s.h.word s.cfg 3 nc
    (nb < s.cfg.hStoreSize → SumAllowed s.cfg (trueSum s.cfg vnb vc) →
      exec (.h0_10_2 a b c) s = .next (s.withH { s.h with
        v := Cells.write s.h.v a.toNat (trunc s.cfg.hW (trueSum s.cfg vnb vc))
        n1 := nb
        pc := (s.h.pc + 1) % 2 ^ s.cfg.hAW
        history := s.h.history ++ (vb.events ++ vnb.events ++ vc.events) })) ∧
    (s.cfg.hStoreSize ≤ nb → exec (.h0_10_2 a b c) s = .fault .hermesStoreOutside) ∧
    (nb < s.cfg.hStoreSize → SumRefused s.cfg (trueSum s.cfg vnb vc) →
      exec (.h0_10_2 a b c) s = .refused .hermesSumOverflows) ∧
    (nc < s.cfg.hStoreSize → SumAllowed s.cfg (trueSum s.cfg vb vnc) →
      exec (.h0_10_3 a b c) s = .next (s.withH { s.h with
        v := Cells.write s.h.v a.toNat (trunc s.cfg.hW (trueSum s.cfg vb vnc))
        n1 := nc
        pc := (s.h.pc + 1) % 2 ^ s.cfg.hAW
        history := s.h.history ++ (vb.events ++ (vc.events ++ vnc.events)) })) ∧
    (s.cfg.hStoreSize ≤ nc → exec (.h0_10_3 a b c) s = .fault .hermesStoreOutside) ∧
    (nc < s.cfg.hStoreSize → SumRefused s.cfg (trueSum s.cfg vb vnc) →
      exec (.h0_10_3 a b c) s = .refused .hermesSumOverflows)

/-- Every Hermes order leaves every word of H.V alone except the one it stores to, which it computes (R75, R92, R210, R218, R230,
R232, R233, R234, R236). For a Hermes order that answers a next state: every word of the store reads as before except, for the
storing jumps, the one at B; for the sums and loads to VA, the one at A; for H0.10.1, the one at the low H_AW bits of VA; for
H0.11.1, the one at N1 + A. The testing jumps store nothing. What an address reads as is its entry in the store, or that it
has none. Where H_AW exceeds H_W, that an address taken from a word is its unsigned value is the model's choice (DESIGN
CHOICE, log 24). -/
def Obligations.HermesStoreFrame : Prop :=
  ∀ (s t : State) (a b c : Field5),
    (∀ o ∈ [Instr.h0_00_0, Instr.h0_01_0, Instr.h0_00_1, Instr.h0_01_1, Instr.h0_00_2, Instr.h0_01_2, Instr.h0_00_3,
        Instr.h0_01_3], exec (o a b c) s = .next t → ∀ e, Cells.read? t.h.v e = Cells.read? s.h.v e) ∧
    (∀ o ∈ [Instr.h0_00_4, Instr.h0_01_4, Instr.h0_00_5, Instr.h0_01_5, Instr.h0_00_6, Instr.h0_01_6, Instr.h0_00_7,
        Instr.h0_01_7], exec (o a b c) s = .next t → ∀ e, e ≠ b.toNat → Cells.read? t.h.v e = Cells.read? s.h.v e) ∧
    (∀ o ∈ [Instr.h0_10_0, Instr.h0_11_0, Instr.h0_10_2, Instr.h0_11_2, Instr.h0_10_3, Instr.h0_11_3, Instr.h0_10_6,
        Instr.h0_11_6, Instr.h0_10_7, Instr.h0_11_7],
      exec (o a b c) s = .next t → ∀ e, e ≠ a.toNat → Cells.read? t.h.v e = Cells.read? s.h.v e) ∧
    (exec (.h0_10_1 a b c) s = .next t →
      ∀ e, e ≠ toHermesAddress s.cfg (s.h.word s.cfg 0 a.toNat).val → Cells.read? t.h.v e = Cells.read? s.h.v e) ∧
    (exec (.h0_11_1 a b c) s = .next t →
      ∀ e, e ≠ s.h.offsetAddress s.cfg a → Cells.read? t.h.v e = Cells.read? s.h.v e)

/-- The effective N is N plus the modifier modulo 2^13; the constant and the count it gives (R55, R86, R87, R340). With the
default A_MODMAP: M = 0 leaves N, and M = 1, 2, 3 add A.mod[M] modulo 8192. As a constant, N is its value modulo 2^w(X) under
zero-extension, and under sign-extension N if N < 4096, else N - 8192, modulo 2^w(X). As a count of places it is N if N <
4096, else N - 8192. -/
def Obligations.ArgusModifiersAndConstants : Prop :=
  ∀ (c : Config) (a : AState) (n : Addr13) (x : BitVec 3), c.aModMap = ModifierMap.standard →
    a.effectiveN c n 0 = n ∧
    (a.effectiveN c n 1).toNat = (n.toNat + a.mod[0].toNat) % 8192 ∧
    (a.effectiveN c n 2).toNat = (n.toNat + a.mod[1].toNat) % 8192 ∧
    (a.effectiveN c n 3).toNat = (n.toNat + a.mod[2].toNat) % 8192 ∧
    (c.aConstExt = .zero → constantOperand c x n = n.toNat % 2 ^ accWidth c x) ∧
    (c.aConstExt = .sign → (constantOperand c x n : Int) =
      (if n.toNat < 4096 then (n.toNat : Int) else (n.toNat : Int) - 8192) % ((2 ^ accWidth c x : Nat) : Int)) ∧
    a.places c n 0 = if n.toNat < 4096 then (n.toNat : Int) else (n.toNat : Int) - 8192

/-- Accumulators 0 to 5, Q and P: what a write of one changes in the others (R50, R51, R52, R53). With the first named word the
more significant: xval(7) is x4 and x5 as one number, xval(6) is Q1 and Q2, (pq) is P and Q. A write setx(X, v) of a value of
w(X) bits is read back by xval(X); for X = 7 it writes exactly accumulators 4 and 5, for X = 6 exactly Q1 and Q2, for a short
X exactly accumulator X; setp and setpq likewise. -/
def Obligations.ArgusAccumulators : Prop :=
  ∀ (c : Config) (a : AState), a.wf c → c.aLongOrder = .firstNamed →
    a.xval c 7#3 = a.x[4] * 2 ^ c.aW + a.x[5] ∧ a.xval c 6#3 = a.q1 * 2 ^ c.aW + a.q2 ∧
    a.pval c = a.xval c 7#3 ∧ a.pqval c = a.xval c 7#3 * 2 ^ (2 * c.aW) + a.xval c 6#3 ∧
    (∀ (x : BitVec 3) (v : Nat), v < 2 ^ accWidth c x → (a.setx c x v).xval c x = v) ∧
    (∀ v, a.setx c 7#3 v = { a with x := (a.x.set 4 (v / 2 ^ c.aW)).set 5 (v % 2 ^ c.aW) } ∧ a.setp c v = a.setx c 7#3 v) ∧
    (∀ v, a.setx c 6#3 v = { a with q1 := v / 2 ^ c.aW, q2 := v % 2 ^ c.aW }) ∧
    (∀ v, v < 2 ^ (4 * c.aW) → (a.setpq c v).pqval c = v) ∧
    (∀ (k : Fin 6) (v : Nat), a.setx c (BitVec.ofNat 3 k) v = { a with x := a.x.set k v } ∧
      a.xval c (BitVec.ofNat 3 k) = a.x[k])

/-- A long store operand is the words at N-1 and N, the first the more significant; a short one is the word at N (R80, R81, R85).
With the first named word the more significant: where both words have been written, the long operand at Ne >= 1 is the word at
Ne - 1 times 2^A_W plus the word at Ne, and reading draws nothing. A write of v there leaves v / 2^A_W at Ne - 1, v mod 2^A_W
at Ne and every other word alone; a short write leaves v at Ne and every other word alone. -/
def Obligations.ArgusLongOperands : Prop :=
  ∀ (c : Config) (a : AState) (x : BitVec 3) (ne : Addr13), c.aLongOrder = .firstNamed →
    (isLong x = false → ∀ u, Cells.read? a.s ne.toNat = some u → a.storeOperand c x ne = ⟨u, []⟩) ∧
    (isLong x = true → ∀ u v, Cells.read? a.s (ne.toNat - 1) = some u → Cells.read? a.s ne.toNat = some v →
      a.storeOperand c x ne = ⟨u * 2 ^ c.aW + v, []⟩) ∧
    (isLong x = false → ∀ v e, Cells.read? (a.putOperand c x ne v).s e =
      if e = ne.toNat then some v else Cells.read? a.s e) ∧
    (isLong x = true → ne ≠ 0 → ∀ v e, Cells.read? (a.putOperand c x ne v).s e =
      if e = ne.toNat then some (v % 2 ^ c.aW)
      else if e = ne.toNat - 1 then some (v / 2 ^ c.aW) else Cells.read? a.s e)

/-- Argus 00 to 06: x takes the function of x and n; OVR is set by an overflow and otherwise kept (R270, R271, R272, R273, R274,
R275, R276, R277, R278, R440). Where the store operand is there: the accumulator X takes n, x + n, -n, x - n, n - x, x & n or
x # n at its width, A.OVR is set if the sum, difference or negation does not fit and is otherwise unchanged, and pc is the
next address. Nothing else changes but the record of draws for words nothing had written. Where a word it reads is unwritten,
it completes by a recorded draw, the model's choice of R440's two treatments (DESIGN CHOICE, log 5); the order of the draws in
the record is the model's choice (DESIGN CHOICE, log 22). -/
def Obligations.ArgusLoadsAndSums : Prop :=
  ∀ (s : State) (n : Addr13) (x : BitVec 3) (m : BitVec 2), OperandAllowed s.cfg x (s.a.effectiveN s.cfg n m) →
    let ne := s.a.effectiveN s.cfg n m
    let w := accWidth s.cfg x
    let xv := s.a.xval s.cfg x
    let o := s.a.storeOperand s.cfg x ne
    ∀ q ∈ [(Instr.a00, AFunction.copy), (Instr.a01, AFunction.add), (Instr.a02, AFunction.negate),
        (Instr.a03, AFunction.sub), (Instr.a04, AFunction.subReverse), (Instr.a05, AFunction.and),
        (Instr.a06, AFunction.xor)],
      exec (q.1 n x m) s = .next (s.withA { s.a.setx s.cfg x (q.2.apply w xv o.val) with
        ovr := s.a.ovr || q.2.overflows w xv o.val, pc := s.a.pc + 1, history := s.a.history ++ o.events })

/-- Argus 10 to 16: n takes the function of n and x, the accumulator stays (R270, R271, R280, R281, R282, R283, R284, R285, R286,
R440). Where the store operand is there: the store operand takes x, n + x, -x, n - x, x - n, n & x or n # x; 10 and 12 do not
read n. The accumulator is unchanged, A.OVR follows R271, pc is the next address, and nothing else changes but the record of
draws. Where a word it reads is unwritten (the store operand of 11 and 13 to 16), it completes by a recorded draw, the model's
choice of R440's two treatments (DESIGN CHOICE, log 5); the order of the draws in the record is the model's choice (DESIGN
CHOICE, log 22). -/
def Obligations.ArgusStores : Prop :=
  ∀ (s : State) (n : Addr13) (x : BitVec 3) (m : BitVec 2), OperandAllowed s.cfg x (s.a.effectiveN s.cfg n m) →
    let ne := s.a.effectiveN s.cfg n m
    let w := accWidth s.cfg x
    let xv := s.a.xval s.cfg x
    let o := s.a.storeOperand s.cfg x ne
    exec (.a10 n x m) s = .next (s.withA { s.a.putOperand s.cfg x ne xv with pc := s.a.pc + 1 }) ∧
    exec (.a12 n x m) s = .next (s.withA { s.a.putOperand s.cfg x ne (negW w xv) with
      ovr := s.a.ovr || ovfNeg w xv, pc := s.a.pc + 1 }) ∧
    (∀ q ∈ [(Instr.a11, AFunction.add), (Instr.a13, AFunction.sub), (Instr.a14, AFunction.subReverse),
        (Instr.a15, AFunction.and), (Instr.a16, AFunction.xor)],
      exec (q.1 n x m) s = .next (s.withA { s.a.putOperand s.cfg x ne (q.2.apply w o.val xv) with
        ovr := s.a.ovr || q.2.overflows w o.val xv, pc := s.a.pc + 1, history := s.a.history ++ o.events }))

/-- Argus 40 to 46: x takes the function of x and the constant N (R87, R270, R271, R290, R291, R292, R293, R294, R295, R296). In
every state: the accumulator X takes N, x + N, -N, x - N, N - x, x & N or x # N at its width, N being the effective N widened
by A_CONST_EXT; A.OVR follows R271, pc is the next address, and nothing else changes. -/
def Obligations.ArgusConstants : Prop :=
  ∀ (s : State) (n : Addr13) (x : BitVec 3) (m : BitVec 2),
    let ne := s.a.effectiveN s.cfg n m
    let w := accWidth s.cfg x
    let xv := s.a.xval s.cfg x
    let k := constantOperand s.cfg x ne
    ∀ q ∈ [(Instr.a40, AFunction.copy), (Instr.a41, AFunction.add), (Instr.a42, AFunction.negate),
        (Instr.a43, AFunction.sub), (Instr.a44, AFunction.subReverse), (Instr.a45, AFunction.and),
        (Instr.a46, AFunction.xor)],
      exec (q.1 n x m) s = .next (s.withA { s.a.setx s.cfg x (q.2.apply w xv k) with
        ovr := s.a.ovr || q.2.overflows w xv k, pc := s.a.pc + 1 })

/-- Argus 00 to 06, 10 to 16, 20, 21, 24 to 26: a long operand at 0 is refused, then an address outside the store is stuck (R80,
R85, R270, R310, R312, R314, R315, R316, R406). A long accumulator with effective N zero is refused; otherwise an effective N
at or above A_STORE_SIZE is stuck. The refusal comes before the size test. For 21 this is said where A_MULROUND is supplied,
for 24, 25 and 26 where A_DIV is (ArgusOrdersWithoutConfiguration says the rest). -/
def Obligations.ArgusOperandsThatAreNotThere : Prop :=
  ∀ (s : State) (n : Addr13) (x : BitVec 3) (m : BitVec 2),
    ∀ o ∈ [(Instr.a00, true), (Instr.a01, true), (Instr.a02, true), (Instr.a03, true), (Instr.a04, true),
        (Instr.a05, true), (Instr.a06, true), (Instr.a10, true), (Instr.a11, true), (Instr.a12, true),
        (Instr.a13, true), (Instr.a14, true), (Instr.a15, true), (Instr.a16, true), (Instr.a20, true),
        (Instr.a21, s.cfg.aMulRound), (Instr.a24, s.cfg.aDiv), (Instr.a25, s.cfg.aDiv), (Instr.a26, s.cfg.aDiv)],
      o.2 = true →
        (isLong x = true → s.a.effectiveN s.cfg n m = 0 → exec (o.1 n x m) s = .refused .longOperandAtAddress0) ∧
        (¬(isLong x = true ∧ s.a.effectiveN s.cfg n m = 0) → s.cfg.aStoreSize ≤ (s.a.effectiveN s.cfg n m).toNat →
          exec (o.1 n x m) s = .fault .argusStoreOutside)

/-- Argus 20: the exact signed product of n and x, in P for a short X and in (pq) for a long one (R311, R440). With A_MUL the
exact integer product and the store operand there: P (X = 0 to 5) or (pq) (X = 6, 7) takes the signed product of n and x at
double width, pc is the next address, OVR and everything else is unchanged but the record of draws. The product always fits:
for words of w >= 1 bits the signed value of the double-width word is the product itself. Where a word it reads is unwritten,
it completes by a recorded draw, the model's choice of R440's two treatments (DESIGN CHOICE, log 5); the order of the draws in
the record is the model's choice (DESIGN CHOICE, log 22). -/
def Obligations.ArgusMultiplication : Prop :=
  (∀ (s : State) (n : Addr13) (x : BitVec 3) (m : BitVec 2), s.cfg.aMul = .integer →
    OperandAllowed s.cfg x (s.a.effectiveN s.cfg n m) →
    let o := s.a.storeOperand s.cfg x (s.a.effectiveN s.cfg n m)
    let w := accWidth s.cfg x
    let v := trunc (2 * w) (sval w o.val * sval w (s.a.xval s.cfg x))
    exec (.a20 n x m) s = .next (s.withA { (if isLong x then s.a.setpq s.cfg v else s.a.setp s.cfg v) with
      pc := s.a.pc + 1, history := s.a.history ++ o.events })) ∧
  (∀ w u v : Nat, 1 ≤ w → u < 2 ^ w → v < 2 ^ w →
    sval (2 * w) (trunc (2 * w) (sval w u * sval w v)) = sval w u * sval w v)

/-- Argus 20, 21, 24, 25, 26 with A_MUL, A_MULROUND or A_DIV supplied: the supplied value to P or (pq); 26 clears P2 or Q (R310,
R311, R312, R314, R315, R316, R440). Where the store operand is there and the configuration supplies the function: P (short X)
or (pq) (long X) takes its value, a free function of n, x and X (and of (pq) for division), and pc is the next address. After
26 P2 is zero (short X) or Q is zero (long X). That a supplied value goes to P or (pq), that division depends on (pq), and
that OVR is unchanged are the model's reading (log 15). Where a word it reads is unwritten, it completes by a recorded draw,
the model's choice of R440's two treatments (DESIGN CHOICE, log 5); the order of the draws in the record is the model's choice
(DESIGN CHOICE, log 22). -/
def Obligations.SuppliedProductsAndQuotients : Prop :=
  ∀ (s : State) (n : Addr13) (x : BitVec 3) (m : BitVec 2), OperandAllowed s.cfg x (s.a.effectiveN s.cfg n m) →
    let o := s.a.storeOperand s.cfg x (s.a.effectiveN s.cfg n m)
    let xv := s.a.xval s.cfg x
    let pq := s.a.pqval s.cfg
    let put := fun v : Nat => { s.a.setProduct s.cfg x (v % 2 ^ productWidth s.cfg x) with
      pc := s.a.pc + 1, history := s.a.history ++ o.events }
    (s.cfg.aMul = .supplied → exec (.a20 n x m) s = .next (s.withA (put (Config.product s.cfg.aW x o.val xv)))) ∧
    (s.cfg.aMulRound = true → exec (.a21 n x m) s = .next (s.withA (put (Config.roundedProduct s.cfg.aW x o.val xv)))) ∧
    (s.cfg.aDiv = true → exec (.a24 n x m) s = .next (s.withA (put (Config.quotient s.cfg.aW x o.val xv pq)))) ∧
    (s.cfg.aDiv = true → exec (.a25 n x m) s = .next (s.withA (put (Config.roundedQuotient s.cfg.aW x o.val xv pq)))) ∧
    (s.cfg.aDiv = true → ∃ t : AState, exec (.a26 n x m) s = .next (s.withA t) ∧
      (isLong x = false → t = { put (Config.roundedQuotient s.cfg.aW x o.val xv pq) with
        x := (put (Config.roundedQuotient s.cfg.aW x o.val xv pq)).x.set 5 0 }) ∧
      (isLong x = true → t = { put (Config.roundedQuotient s.cfg.aW x o.val xv pq) with q1 := 0, q2 := 0 }))

/-- Argus 30, 31, 32 with A_IOREG: a drawn word to the place of Register 20 or 22, recorded with its selector (R59, R330, R331,
R332, R333). With A_IOREG supplied: 30 and 31 deliver a drawn word of A_W bits to the place that stands for Register 20, 32 to
that of Register 22: an accumulator, a short address of the store (stuck outside it) or a cell of its own; the function, the
effective N and the word are recorded, and pc is the next address. Nothing else changes. What the places can be is the model's
(log 16). -/
def Obligations.ArgusInput : Prop :=
  ∀ (s : State) (n : Addr13) (x : BitVec 3) (m : BitVec 2) (regs : IoRegisters), s.cfg.aIoReg = some regs →
    let v := Config.drawnInput s.a.history.length % 2 ^ s.cfg.aW
    ∀ o ∈ [(Instr.a30, 0o30#6, regs.reg20, { s.a with reg20 := v }), (Instr.a31, 0o31#6, regs.reg20, { s.a with reg20 := v }),
        (Instr.a32, 0o32#6, regs.reg22, { s.a with reg22 := v })],
      let history := s.a.history ++ [.input o.2.1 (s.a.effectiveN s.cfg n m) v]
      (o.2.2.1 = .ownCell →
        exec (o.1 n x m) s = .next (s.withA { o.2.2.2 with pc := s.a.pc + 1, history := history })) ∧
      (∀ i, o.2.2.1 = .accumulator i →
        exec (o.1 n x m) s = .next (s.withA { s.a with x := s.a.x.set i v, pc := s.a.pc + 1, history := history })) ∧
      (∀ e, o.2.2.1 = .shortAddress e → e.toNat < s.cfg.aStoreSize →
        exec (o.1 n x m) s = .next (s.withA { s.a with
          s := Cells.write s.a.s e.toNat v, pc := s.a.pc + 1, history := history })) ∧
      (∀ e, o.2.2.1 = .shortAddress e → s.cfg.aStoreSize ≤ e.toNat → exec (o.1 n x m) s = .fault .argusStoreOutside)

/-- Argus 50 to 53: x, p or (pq) shifted by the signed effective N; OVR set by a loss; other X refused in 52, 53 (R342, R343,
R344, R345). In every state: 50 and 51 shift x arithmetically or logically by the signed effective N at the width of X; 52 and
53 shift p for X = 4 and (pq) for X = 7, each as one number, and are refused for any other X. 50 and 52 set A.OVR when a shift
up loses significance; OVR is otherwise unchanged. pc is the next address and nothing else changes. -/
def Obligations.ArgusShifts : Prop :=
  ∀ (s : State) (n : Addr13) (x : BitVec 3) (m : BitVec 2),
    let k := s.a.places s.cfg n m
    let w := accWidth s.cfg x
    let xv := s.a.xval s.cfg x
    let p := s.a.pval s.cfg
    let pq := s.a.pqval s.cfg
    exec (.a50 n x m) s = .next (s.withA { s.a.setx s.cfg x (shiftArith w xv k) with
      ovr := s.a.ovr || shiftLoses w xv k, pc := s.a.pc + 1 }) ∧
    exec (.a51 n x m) s = .next (s.withA { s.a.setx s.cfg x (shiftLogical w xv k) with pc := s.a.pc + 1 }) ∧
    exec (.a52 n 4#3 m) s = .next (s.withA { s.a.setp s.cfg (shiftArith (2 * s.cfg.aW) p k) with
      ovr := s.a.ovr || shiftLoses (2 * s.cfg.aW) p k, pc := s.a.pc + 1 }) ∧
    exec (.a52 n 7#3 m) s = .next (s.withA { s.a.setpq s.cfg (shiftArith (4 * s.cfg.aW) pq k) with
      ovr := s.a.ovr || shiftLoses (4 * s.cfg.aW) pq k, pc := s.a.pc + 1 }) ∧
    exec (.a53 n 4#3 m) s = .next (s.withA { s.a.setp s.cfg (shiftLogical (2 * s.cfg.aW) p k) with pc := s.a.pc + 1 }) ∧
    exec (.a53 n 7#3 m) s = .next (s.withA { s.a.setpq s.cfg (shiftLogical (4 * s.cfg.aW) pq k) with pc := s.a.pc + 1 }) ∧
    (x ≠ 4#3 → x ≠ 7#3 →
      exec (.a52 n x m) s = .refused (.argusShiftNeedsX4or7 0o52#6) ∧
      exec (.a53 n x m) s = .refused (.argusShiftNeedsX4or7 0o53#6))

/-- sha and shl: multiplication by 2^k, division by 2^k without rounding, and counts of the width or more (R341). For a word v of
w >= 1 bits: sha up by k is s(v) * 2^k reduced modulo 2^w, lost exactly when its signed value is not that product, and 0 when
k >= w; sha down by k is the floor of s(v) / 2^k, never lost, and 0 or all ones when k >= w; shl up is u(v) * 2^k modulo 2^w,
and down the floor of u(v) / 2^k, 0 when k >= w. -/
def Obligations.ShiftedValues : Prop :=
  ∀ w v k : Nat, 1 ≤ w → v < 2 ^ w →
    shiftArith w v (k : Int) = (sval w v * ((2 ^ k : Nat) : Int) % ((2 ^ w : Nat) : Int)).toNat ∧
    (shiftLoses w v (k : Int) = true ↔ sval w (shiftArith w v (k : Int)) ≠ sval w v * ((2 ^ k : Nat) : Int)) ∧
    (w ≤ k → shiftArith w v (k : Int) = 0 ∧ shiftLogical w v (k : Int) = 0) ∧
    (1 ≤ k → sval w (shiftArith w v (-(k : Int))) = sval w v / ((2 ^ k : Nat) : Int) ∧
      shiftLoses w v (-(k : Int)) = false) ∧
    (w ≤ k → shiftArith w v (-(k : Int)) = (if sval w v < 0 then 2 ^ w - 1 else 0) ∧ shiftLogical w v (-(k : Int)) = 0) ∧
    shiftLogical w v (k : Int) = v * 2 ^ k % 2 ^ w ∧ shiftLogical w v (-(k : Int)) = v / 2 ^ k ∧
    shiftArith w v 0 = v

/-- Argus 54 and 55: p or (pq) normalised, the count of places to X; the overlapping X and zero refused (R346, R347, R349). In
every state with any N and M: 54 with X other than 4, 5, 7 and p not zero leaves P normalised and the number of places in X;
55 with X = 0 to 3 and (pq) not zero does the same of (pq). pc is the next address, OVR and everything else is unchanged. 54
with X = 4, 5, 7, 55 with X = 4 to 7, and either on zero are refused by name. A count that does not fit the width of X (55
with A_W of 1 to 3) is reduced modulo 2 to that width, the model's choice (DESIGN CHOICE, log 14). -/
def Obligations.ArgusNormalising : Prop :=
  ∀ (s : State) (n : Addr13) (x : BitVec 3) (m : BitVec 2),
    let p := s.a.pval s.cfg
    let pq := s.a.pqval s.cfg
    (x ≠ 4#3 → x ≠ 5#3 → x ≠ 7#3 → p ≠ 0 →
      exec (.a54 n x m) s = .next (s.withA { ((s.a.setp s.cfg (normaliseValue (2 * s.cfg.aW) p)).setx s.cfg x
        (normaliseCount (2 * s.cfg.aW) p % 2 ^ accWidth s.cfg x)) with pc := s.a.pc + 1 })) ∧
    (x ≠ 4#3 → x ≠ 5#3 → x ≠ 7#3 → p = 0 → exec (.a54 n x m) s = .refused .argusNormaliseOfZero) ∧
    (x = 4#3 ∨ x = 5#3 ∨ x = 7#3 → exec (.a54 n x m) s = .refused .argusCountOverlapsP) ∧
    (x.toNat ≤ 3 → pq ≠ 0 →
      exec (.a55 n x m) s = .next (s.withA { ((s.a.setpq s.cfg (normaliseValue (4 * s.cfg.aW) pq)).setx s.cfg x
        (normaliseCount (4 * s.cfg.aW) pq % 2 ^ s.cfg.aW)) with pc := s.a.pc + 1 })) ∧
    (x.toNat ≤ 3 → pq = 0 → exec (.a55 n x m) s = .refused .argusNormaliseOfZero) ∧
    (4 ≤ x.toNat → exec (.a55 n x m) s = .refused .argusCountOverlapsPQ)

/-- Normalising: the least shift up whose top two bits differ exists, takes at most w - 1 places and loses nothing (R349). For
every non-zero word v of w >= 2 bits: the count is at most w - 1; the top two bits of the normalised value differ; for no
smaller count do they; the normalised value is v times 2 to the count as signed numbers, so that nothing is lost; and it is
the value shifted up by the count. A zero p or (pq) is refused by 54 and 55. -/
def Obligations.NormalisedValues : Prop :=
  (∀ w v : Nat, 2 ≤ w → v ≠ 0 → v < 2 ^ w →
    normaliseCount w v ≤ w - 1 ∧ TopBitsDiffer w (normaliseValue w v) ∧
    (∀ j < normaliseCount w v, ¬ TopBitsDiffer w (shiftArith w v (j : Int))) ∧
    normaliseValue w v = shiftArith w v (normaliseCount w v : Int) ∧
    sval w (normaliseValue w v) = sval w v * ((2 ^ normaliseCount w v : Nat) : Int) ∧
    shiftLoses w v (normaliseCount w v : Int) = false) ∧
  (∀ (s : State) (n : Addr13) (x : BitVec 3) (m : BitVec 2), x.toNat ≤ 3 →
    (s.a.pval s.cfg = 0 → exec (.a54 n x m) s = .refused .argusNormaliseOfZero) ∧
    (s.a.pqval s.cfg = 0 → exec (.a55 n x m) s = .refused .argusNormaliseOfZero))

/-- Argus 60 to 63: jump to the effective N if x is 0, not 0, not negative, negative (R361, R362, R363, R364). In every state: pc
takes the effective N if the condition holds of x, the whole long accumulator for X = 6 or 7, read as a signed number in 62
and 63, and is the next address otherwise; nothing else changes. -/
def Obligations.ArgusAccumulatorJumps : Prop :=
  ∀ (s : State) (n : Addr13) (x : BitVec 3) (m : BitVec 2),
    let ne := s.a.effectiveN s.cfg n m
    let w := accWidth s.cfg x
    let xv := s.a.xval s.cfg x
    exec (.a60 n x m) s = .next (s.withA { s.a with pc := if xv = 0 then ne else s.a.pc + 1 }) ∧
    exec (.a61 n x m) s = .next (s.withA { s.a with pc := if xv ≠ 0 then ne else s.a.pc + 1 }) ∧
    exec (.a62 n x m) s = .next (s.withA { s.a with pc := if 0 ≤ sval w xv then ne else s.a.pc + 1 }) ∧
    exec (.a63 n x m) s = .next (s.withA { s.a with pc := if sval w xv < 0 then ne else s.a.pc + 1 })

/-- Argus 64 and 65: jump on OVR clear or set; OVR is clear afterwards in either case (R365, R366). In every state and for every
X: 64 jumps to the effective N if OVR is clear, 65 if it is set; otherwise the next order follows; OVR is clear afterwards and
nothing else changes. -/
def Obligations.ArgusOverflowJumps : Prop :=
  ∀ (s : State) (n : Addr13) (x : BitVec 3) (m : BitVec 2),
    let ne := s.a.effectiveN s.cfg n m
    exec (.a64 n x m) s = .next (s.withA { s.a with ovr := false, pc := if s.a.ovr = false then ne else s.a.pc + 1 }) ∧
    exec (.a65 n x m) s = .next (s.withA { s.a with ovr := false, pc := if s.a.ovr = true then ne else s.a.pc + 1 })

/-- Argus 66 and 67: x down by 2 or 1, m up by 2 or 1, jump to the unmodified N if x is not zero (R367, R368). In every state: x
takes x - 2 (66) or x - 1 (67) modulo 2^w(X), the modifier that M identifies takes m + 2 or m + 1 modulo 2^13 (nothing is
written where M identifies none, as M = 0 does by default), and pc takes N unmodified if the new x is not zero, else the next
address. OVR and everything else is unchanged. -/
def Obligations.ArgusCountingJumps : Prop :=
  ∀ (s : State) (n : Addr13) (x : BitVec 3) (m : BitVec 2),
    ∀ o ∈ [(Instr.a66, 2), (Instr.a67, 1)],
      let r := (s.a.xval s.cfg x + (2 ^ accWidth s.cfg x * 2 - o.2)) % 2 ^ accWidth s.cfg x
      (1 ≤ s.cfg.aW → exec (o.1 n x m) s = .next (s.withA { s.a.setx s.cfg x r with
        mod := match ModifierMap.register s.cfg.aModMap m with
          | none => s.a.mod
          | some i => s.a.mod.set i (s.a.mod[i] + BitVec.ofNat 13 o.2)
        pc := if r ≠ 0 then n else s.a.pc + 1 })) ∧
      ModifierMap.register .standard 0 = none ∧ ModifierMap.register .standard 1 = some 0 ∧
      ModifierMap.register .standard 2 = some 1 ∧ ModifierMap.register .standard 3 = some 2

/-- Argus 70, 71, 72: jump storing the link, jump to link + 1, jump to link; 71 returns after its 70, 72 resumes (R369, R370,
R371, R403). In every state: 70 stores its own address as the link and jumps to the effective N, 71 sets pc to link + 1 modulo
2^13, 72 sets pc to the link; none changes anything else, and X is ignored by 70, all fields by 71 and 72. So a 71 obeyed with
the link a 70 stored sets pc to the order after the 70, and a 72 obeyed after an interruption entry sets pc to the order that
was interrupted. -/
def Obligations.ArgusLinkJumps : Prop :=
  ∀ (s : State) (n n' entry : Addr13) (x x' : BitVec 3) (m m' : BitVec 2),
    let called := s.withA { s.a with link := s.a.pc, pc := s.a.effectiveN s.cfg n m }
    let interrupted := s.withA (s.a.takeInterruption entry)
    exec (.a70 n x m) s = .next called ∧
    exec (.a71 n x m) s = .next (s.withA { s.a with pc := s.a.link + 1 }) ∧
    exec (.a72 n x m) s = .next (s.withA { s.a with pc := s.a.link }) ∧
    exec (.a71 n' x' m') called = .next (s.withA { s.a with link := s.a.pc, pc := s.a.pc + 1 }) ∧
    exec (.a72 n' x' m') interrupted = .next (s.withA { s.a with link := s.a.pc })

/-- Argus 73 and 74: jump if a drawn and recorded busy state is true, or false (R372, R373). In every state and for every X: the
busy state of the typewriter is drawn and recorded in the event history; 73 jumps to the effective N if it is busy, 74 if it
is not; otherwise the next order follows; nothing else changes. -/
def Obligations.ArgusTypewriterJumps : Prop :=
  ∀ (s : State) (n : Addr13) (x : BitVec 3) (m : BitVec 2),
    let ne := s.a.effectiveN s.cfg n m
    let busy := Config.drawnTypewriterBusy s.a.history.length
    exec (.a73 n x m) s = .next (s.withA { s.a with
      pc := if busy = true then ne else s.a.pc + 1, history := s.a.history ++ [.typewriter busy] }) ∧
    exec (.a74 n x m) s = .next (s.withA { s.a with
      pc := if busy = false then ne else s.a.pc + 1, history := s.a.history ++ [.typewriter busy] })

/-- Every Argus order leaves every short word of A.S alone except those it stores to, which it computes (R80, R81, R85, R92, R280,
R282, R330). For an Argus order that answers a next state: 10 to 16 leave every short word alone except the one at the
effective N, and for a long X the one before it; 30 to 32 every one except the short address that stands for their register,
if it is one; every other function leaves the whole store alone. What an address reads as is its entry in the store, or that
it has none. -/
def Obligations.ArgusStoreFrame : Prop :=
  ∀ (s t : State) (n : Addr13) (x : BitVec 3) (m : BitVec 2),
    (∀ o ∈ [Instr.a10, Instr.a11, Instr.a12, Instr.a13, Instr.a14, Instr.a15, Instr.a16],
      exec (o n x m) s = .next t → ∀ e, e ≠ (s.a.effectiveN s.cfg n m).toNat →
        (isLong x = true → e ≠ (s.a.effectiveN s.cfg n m).toNat - 1) → Cells.read? t.a.s e = Cells.read? s.a.s e) ∧
    (∀ o ∈ [(Instr.a30, IoRegisters.reg20), (Instr.a31, IoRegisters.reg20), (Instr.a32, IoRegisters.reg22)],
      exec (o.1 n x m) s = .next t → ∀ e : Nat,
        (∀ regs k, s.cfg.aIoReg = some regs → o.2 regs = .shortAddress k → e ≠ k.toNat) →
          Cells.read? t.a.s e = Cells.read? s.a.s e) ∧
    (∀ o ∈ [Instr.a00, Instr.a01, Instr.a02, Instr.a03, Instr.a04, Instr.a05, Instr.a06, Instr.a20,
        Instr.a21, Instr.a24, Instr.a25, Instr.a26, Instr.a40, Instr.a41, Instr.a42, Instr.a43,
        Instr.a44, Instr.a45, Instr.a46, Instr.a50, Instr.a51, Instr.a52, Instr.a53, Instr.a54,
        Instr.a55, Instr.a60, Instr.a61, Instr.a62, Instr.a63, Instr.a64, Instr.a65, Instr.a66,
        Instr.a67, Instr.a70, Instr.a71, Instr.a72, Instr.a73, Instr.a74, Instr.a77],
      exec (o n x m) s = .next t → ∀ e, Cells.read? t.a.s e = Cells.read? s.a.s e)

/-- The literal C, the offset A and the jump distance A of the Hermes, as numbers under either widening and either base (R77,
R104, R200, R202). For H_W and H_AW of at least 5: the literal C is its value 0 to 31 under zero-extension, and under sign-
extension the word of H_W bits for C if C < 16, else C - 32; the address N1 + A adds A, respectively A or A - 32, to N1 modulo
2^H_AW; a relative jump goes A or A - 32 places (A < 16 or not) from its own address, or from the next, as H_REL_BASE says,
modulo 2^H_AW. None of them draws. -/
def Obligations.HermesFieldsAsNumbers : Prop :=
  ∀ (c : Config) (h : HState) (f : Field5), 5 ≤ c.hW → 5 ≤ c.hAW →
    let places : Int := if f.toNat < 16 then (f.toNat : Int) else (f.toNat : Int) - 32
    let size : Int := ((2 ^ c.hAW : Nat) : Int)
    (c.hCExt = .zero → h.thirdWord c .literal f = ⟨f.toNat, []⟩) ∧
    (c.hCExt = .sign → h.thirdWord c .literal f =
      ⟨if f.toNat < 16 then f.toNat else 2 ^ c.hW - (32 - f.toNat), []⟩ ∧
      sval c.hW (h.thirdWord c .literal f).val = places) ∧
    (c.hAoffExt = .zero → h.offsetAddress c f = (h.n1 + f.toNat) % 2 ^ c.hAW) ∧
    (c.hAoffExt = .sign → (h.offsetAddress c f : Int) = ((h.n1 : Int) + places) % size) ∧
    (c.hRelBase = .self → ((h.jumpAddress c .relative f).val : Int) = ((h.pc : Int) + places) % size) ∧
    (c.hRelBase = .next → ((h.jumpAddress c .relative f).val : Int) = ((h.pc : Int) + 1 + places) % size) ∧
    (h.jumpAddress c .relative f).events = []
end

