-- ==== Sys2Proof/Laws/Arith.lean ====
section
/-! SUPPORT. The arithmetic primitives: every result fits its width, what a result denotes, and how a pair of words comes apart. -/

namespace Sys2Proof.Machine

/-! ### Bounds -/

theorem trunc_lt (w : Nat) (i : Int) : trunc w i < 2 ^ w := by
  have hpos : (0 : Int) < ((2 ^ w : Nat) : Int) := by exact_mod_cast Nat.two_pow_pos w
  have h1 := Int.emod_nonneg i (ne_of_gt hpos)
  have h2 := Int.emod_lt_of_pos i hpos
  unfold trunc
  omega

theorem addW_lt (w : Nat) (a b : Nat) : addW w a b < 2 ^ w := trunc_lt _ _
theorem subW_lt (w : Nat) (a b : Nat) : subW w a b < 2 ^ w := trunc_lt _ _
theorem negW_lt (w : Nat) (a : Nat) : negW w a < 2 ^ w := trunc_lt _ _

theorem andW_lt (w : Nat) (a : Nat) {b : Nat} (hb : b < 2 ^ w) : andW a b < 2 ^ w :=
  Nat.and_lt_two_pow a hb

theorem xorW_lt {w : Nat} {a b : Nat} (ha : a < 2 ^ w) (hb : b < 2 ^ w) : xorW a b < 2 ^ w :=
  Nat.xor_lt_two_pow ha hb

theorem notW_lt (w : Nat) (a : Nat) : notW w a < 2 ^ w := by
  have := Nat.two_pow_pos w
  unfold notW
  omega

theorem extend5_lt (e : Extension) (w : Nat) (f : Field5) : extend5 e w f < 2 ^ w := by
  cases e <;> exact trunc_lt _ _

theorem extend13_lt (e : Extension) (w : Nat) (f : Addr13) : extend13 e w f < 2 ^ w := by
  cases e <;> exact trunc_lt _ _

theorem shiftArith_lt (w : Nat) (v : Nat) (k : Int) : shiftArith w v k < 2 ^ w := by
  unfold shiftArith
  split <;> exact trunc_lt _ _

theorem shiftLogical_lt {w : Nat} {v : Nat} (hv : v < 2 ^ w) (k : Int) : shiftLogical w v k < 2 ^ w := by
  unfold shiftLogical
  split
  · exact trunc_lt _ _
  · exact lt_of_le_of_lt (Nat.div_le_self _ _) hv

theorem normaliseValue_lt (w : Nat) (v : Nat) : normaliseValue w v < 2 ^ w := shiftArith_lt _ _ _

theorem PFunction.apply_lt {w : Nat} (f : PFunction) {b c : Nat} (hb : b < 2 ^ w) (hc : c < 2 ^ w) :
    f.apply w b c < 2 ^ w := by
  cases f <;> simp only [PFunction.apply]
  · exact addW_lt _ _ _
  · exact subW_lt _ _ _
  · exact xorW_lt hb hc
  · exact xorW_lt hb (notW_lt _ _)
  · exact addW_lt _ _ _
  · exact subW_lt _ _ _
  · exact andW_lt _ _ hc
  · exact andW_lt _ _ (notW_lt _ _)

theorem AFunction.apply_lt {w : Nat} (f : AFunction) {u v : Nat} (hu : u < 2 ^ w) (hv : v < 2 ^ w) :
    f.apply w u v < 2 ^ w := by
  cases f <;> simp only [AFunction.apply]
  · exact hv
  · exact addW_lt _ _ _
  · exact negW_lt _ _
  · exact subW_lt _ _ _
  · exact subW_lt _ _ _
  · exact andW_lt _ _ hv
  · exact xorW_lt hu hv

/-! ### What a word denotes -/

theorem trunc_of_lt {w v : Nat} (hv : v < 2 ^ w) : trunc w (v : Int) = v := by
  unfold trunc
  rw [← Int.natCast_mod, Nat.mod_eq_of_lt hv]
  rfl

theorem sval_range {w v : Nat} (hw : 1 ≤ w) (hv : v < 2 ^ w) :
    -((2 ^ (w - 1) : Nat) : Int) ≤ sval w v ∧ sval w v < ((2 ^ (w - 1) : Nat) : Int) := by
  obtain ⟨k, rfl⟩ : ∃ k, w = k + 1 := ⟨w - 1, by omega⟩
  have h2 : 2 ^ (k + 1) = 2 * 2 ^ k := by rw [pow_succ]; ring
  simp only [sval, Nat.add_sub_cancel] at *
  split <;> omega

theorem trunc_sval {w v : Nat} (hv : v < 2 ^ w) : trunc w (sval w v) = v := by
  unfold sval
  split
  · exact trunc_of_lt hv
  · unfold trunc
    rw [Int.sub_emod_right]
    exact trunc_of_lt hv

theorem sval_trunc_of_fits {w : Nat} {t : Int} (hw : 1 ≤ w) (ht : fitsSigned w t = true) : sval w (trunc w t) = t := by
  obtain ⟨k, rfl⟩ : ∃ k, w = k + 1 := ⟨w - 1, by omega⟩
  have h2 : 2 ^ (k + 1) = 2 * 2 ^ k := by rw [pow_succ]; ring
  simp only [fitsSigned, Nat.add_sub_cancel, decide_eq_true_eq] at ht
  simp only [sval, trunc, Nat.add_sub_cancel]
  by_cases h0 : 0 ≤ t
  · have : t % ((2 ^ (k + 1) : Nat) : Int) = t := Int.emod_eq_of_lt h0 (by omega)
    rw [this]
    split <;> omega
  · have : t % ((2 ^ (k + 1) : Nat) : Int) = t + ((2 ^ (k + 1) : Nat) : Int) := by
      rw [← Int.add_emod_right]
      exact Int.emod_eq_of_lt (by omega) (by omega)
    rw [this]
    split <;> omega

theorem sval_eq_zero_iff {w v : Nat} (hv : v < 2 ^ w) : sval w v = 0 ↔ v = 0 := by
  have := Nat.two_pow_pos (w - 1)
  unfold sval
  split <;> omega

/-! ### Pairs of words -/

theorem pairValue_lt (o : LongOrder) {w f s : Nat} (hf : f < 2 ^ w) (hs : s < 2 ^ w) :
    pairValue o w f s < 2 ^ (2 * w) := by
  have h2 : 2 ^ (2 * w) = 2 ^ w * 2 ^ w := by rw [two_mul, pow_add]
  cases o <;> simp only [pairValue, h2] <;> nlinarith

theorem pairFirst_lt (o : LongOrder) {w v : Nat} (hv : v < 2 ^ (2 * w)) : pairFirst o w v < 2 ^ w := by
  have h2 : 2 ^ (2 * w) = 2 ^ w * 2 ^ w := by rw [two_mul, pow_add]
  cases o <;> simp only [pairFirst]
  · exact Nat.div_lt_of_lt_mul (h2 ▸ hv)
  · exact Nat.mod_lt _ (Nat.two_pow_pos w)

theorem pairSecond_lt (o : LongOrder) {w v : Nat} (hv : v < 2 ^ (2 * w)) : pairSecond o w v < 2 ^ w := by
  have h2 : 2 ^ (2 * w) = 2 ^ w * 2 ^ w := by rw [two_mul, pow_add]
  cases o <;> simp only [pairSecond]
  · exact Nat.mod_lt _ (Nat.two_pow_pos w)
  · exact Nat.div_lt_of_lt_mul (h2 ▸ hv)

theorem pairFirst_pairValue (o : LongOrder) {w f s : Nat} (hf : f < 2 ^ w) (hs : s < 2 ^ w) :
    pairFirst o w (pairValue o w f s) = f := by
  have h := Nat.two_pow_pos w
  cases o <;> simp only [pairFirst, pairValue]
  · rw [Nat.add_comm, Nat.add_mul_div_right _ _ h, Nat.div_eq_of_lt hs, Nat.zero_add]
  · rw [Nat.add_comm, Nat.add_mul_mod_self_right, Nat.mod_eq_of_lt hf]

theorem pairSecond_pairValue (o : LongOrder) {w f s : Nat} (hf : f < 2 ^ w) (hs : s < 2 ^ w) :
    pairSecond o w (pairValue o w f s) = s := by
  have h := Nat.two_pow_pos w
  cases o <;> simp only [pairSecond, pairValue]
  · rw [Nat.add_comm, Nat.add_mul_mod_self_right, Nat.mod_eq_of_lt hs]
  · rw [Nat.add_comm, Nat.add_mul_div_right _ _ h, Nat.div_eq_of_lt hf, Nat.zero_add]

theorem pairValue_pairFirst_pairSecond (o : LongOrder) (w v : Nat) :
    pairValue o w (pairFirst o w v) (pairSecond o w v) = v := by
  cases o <;> exact Nat.div_add_mod' v (2 ^ w)

end Sys2Proof.Machine
end

