-- ==== Sys2Proof/Laws/Decode.lean ====
section
/-! SUPPORT. The fields of a packed word, and the word packed again from its fields. -/

namespace Sys2Proof

@[simp] theorem functionBits_packABC (f : BitVec 9) (a b c : Field5) : functionBits (packABC f a b c) = f := by
  refine BitVec.eq_of_getLsbD_eq fun i hi => ?_
  simp only [functionBits, packABC, BitVec.getLsbD_extractLsb', BitVec.getLsbD_append]
  interval_cases i <;> simp

@[simp] theorem fieldA_packABC (f : BitVec 9) (a b c : Field5) : fieldA (packABC f a b c) = a := by
  refine BitVec.eq_of_getLsbD_eq fun i hi => ?_
  simp only [fieldA, packABC, BitVec.getLsbD_extractLsb', BitVec.getLsbD_append]
  interval_cases i <;> simp

@[simp] theorem fieldB_packABC (f : BitVec 9) (a b c : Field5) : fieldB (packABC f a b c) = b := by
  refine BitVec.eq_of_getLsbD_eq fun i hi => ?_
  simp only [fieldB, packABC, BitVec.getLsbD_extractLsb', BitVec.getLsbD_append]
  interval_cases i <;> simp

@[simp] theorem fieldC_packABC (f : BitVec 9) (a b c : Field5) : fieldC (packABC f a b c) = c := by
  refine BitVec.eq_of_getLsbD_eq fun i hi => ?_
  simp only [fieldC, packABC, BitVec.getLsbD_extractLsb', BitVec.getLsbD_append]
  interval_cases i <;> simp

@[simp] theorem fieldN_packNXFM (n : Addr13) (x : BitVec 3) (f : BitVec 6) (m : BitVec 2) : fieldN (packNXFM n x f m) = n := by
  refine BitVec.eq_of_getLsbD_eq fun i hi => ?_
  simp only [fieldN, packNXFM, BitVec.getLsbD_extractLsb', BitVec.getLsbD_append]
  interval_cases i <;> simp

@[simp] theorem fieldX_packNXFM (n : Addr13) (x : BitVec 3) (f : BitVec 6) (m : BitVec 2) : fieldX (packNXFM n x f m) = x := by
  refine BitVec.eq_of_getLsbD_eq fun i hi => ?_
  simp only [fieldX, packNXFM, BitVec.getLsbD_extractLsb', BitVec.getLsbD_append]
  interval_cases i <;> simp

@[simp] theorem fieldF_packNXFM (n : Addr13) (x : BitVec 3) (f : BitVec 6) (m : BitVec 2) : fieldF (packNXFM n x f m) = f := by
  refine BitVec.eq_of_getLsbD_eq fun i hi => ?_
  simp only [fieldF, packNXFM, BitVec.getLsbD_extractLsb', BitVec.getLsbD_append]
  interval_cases i <;> simp

@[simp] theorem fieldM_packNXFM (n : Addr13) (x : BitVec 3) (f : BitVec 6) (m : BitVec 2) : fieldM (packNXFM n x f m) = m := by
  refine BitVec.eq_of_getLsbD_eq fun i hi => ?_
  simp only [fieldM, packNXFM, BitVec.getLsbD_extractLsb', BitVec.getLsbD_append]
  interval_cases i <;> simp

@[simp] theorem topDigit_packRest21 (u : BitVec 3) (rest : BitVec 21) : topDigit (packRest21 u rest) = u := by
  refine BitVec.eq_of_getLsbD_eq fun i hi => ?_
  simp only [topDigit, packRest21, BitVec.getLsbD_extractLsb', BitVec.getLsbD_append]
  interval_cases i <;> simp

@[simp] theorem below21_packRest21 (u : BitVec 3) (rest : BitVec 21) : below21 (packRest21 u rest) = rest := by
  refine BitVec.eq_of_getLsbD_eq fun i hi => ?_
  simp only [below21, packRest21, BitVec.getLsbD_extractLsb', BitVec.getLsbD_append]
  interval_cases i <;> simp

@[simp] theorem below19_packRest19 (fi : BitVec 5) (rest : BitVec 19) : below19 (packRest19 fi rest) = rest := by
  refine BitVec.eq_of_getLsbD_eq fun i hi => ?_
  simp only [below19, packRest19, BitVec.getLsbD_extractLsb', BitVec.getLsbD_append]
  interval_cases i <;> simp

/-- The nine function bits of a word with a free lower part begin with its top digit. -/
theorem functionBits_packRest21_ge (u : BitVec 3) (rest : BitVec 21) : u.toNat * 64 ≤ (functionBits (packRest21 u rest)).toNat := by
  have h : (functionBits (packRest21 u rest)).extractLsb' 6 3 = u := by
    refine BitVec.eq_of_getLsbD_eq fun i hi => ?_
    simp only [functionBits, packRest21, BitVec.getLsbD_extractLsb', BitVec.getLsbD_append]
    interval_cases i <;> simp
  have h' := congrArg BitVec.toNat h
  simp only [BitVec.extractLsb'_toNat, Nat.shiftRight_eq_div_pow] at h'
  have hlt := (functionBits (packRest21 u rest)).isLt
  omega

/-- The nine function bits of a Hermes word with a free lower part begin with F and I. -/
theorem functionBits_packRest19 (fi : BitVec 5) (rest : BitVec 19) :
    (functionBits (packRest19 fi rest)).extractLsb' 4 5 = fi := by
  refine BitVec.eq_of_getLsbD_eq fun i hi => ?_
  simp only [functionBits, packRest19, BitVec.getLsbD_extractLsb', BitVec.getLsbD_append]
  interval_cases i <;> simp

/-- F and I lie above the other four function bits. -/
theorem functionBits_packRest19_ge (fi : BitVec 5) (rest : BitVec 19) :
    fi.toNat * 16 ≤ (functionBits (packRest19 fi rest)).toNat := by
  have h' := congrArg BitVec.toNat (functionBits_packRest19 fi rest)
  simp only [BitVec.extractLsb'_toNat, Nat.shiftRight_eq_div_pow] at h'
  have hlt := (functionBits (packRest19 fi rest)).isLt
  omega

/-- Every word is packed from its fields (spec/30_encoding.md R101, R103). -/
theorem packABC_fields (w : Order) : packABC (functionBits w) (fieldA w) (fieldB w) (fieldC w) = w := by
  refine BitVec.eq_of_getLsbD_eq fun i hi => ?_
  simp only [functionBits, packABC, fieldA, fieldB, fieldC, BitVec.getLsbD_extractLsb', BitVec.getLsbD_append]
  interval_cases i <;> simp

/-- Every word is packed from its fields (spec/30_encoding.md R105). -/
theorem packNXFM_fields (w : Order) : packNXFM (fieldN w) (fieldX w) (fieldF w) (fieldM w) = w := by
  refine BitVec.eq_of_getLsbD_eq fun i hi => ?_
  simp only [packNXFM, fieldN, fieldX, fieldF, fieldM, BitVec.getLsbD_extractLsb', BitVec.getLsbD_append]
  interval_cases i <;> simp

/-- Every word is packed from its top digit and the rest. -/
theorem packRest21_fields (w : Order) : packRest21 (topDigit w) (below21 w) = w := by
  refine BitVec.eq_of_getLsbD_eq fun i hi => ?_
  simp only [packRest21, topDigit, below21, BitVec.getLsbD_extractLsb', BitVec.getLsbD_append]
  interval_cases i <;> simp

/-- Every word is packed from its top five bits and the rest. -/
theorem packRest19_fields (w : Order) : packRest19 (w.extractLsb' 19 5) (below19 w) = w := by
  refine BitVec.eq_of_getLsbD_eq fun i hi => ?_
  simp only [packRest19, below19, BitVec.getLsbD_extractLsb', BitVec.getLsbD_append]
  interval_cases i <;> simp

/-- A function code of 64 or more means a top digit of 1 or more. -/
theorem topDigit_toNat (w : Order) : (topDigit w).toNat = (functionBits w).toNat / 64 := by
  simp only [topDigit, functionBits, BitVec.extractLsb'_toNat, Nat.shiftRight_eq_div_pow]
  have := w.isLt
  omega

/-- A Poseidon word with U other than 0 is an order of its group (spec/30_encoding.md R112). -/
theorem decodePoseidon_group (w : Order) (h : 64 ≤ (functionBits w).toNat) :
    decodePoseidon w = match (topDigit w).toNat with
      | 1 => .p1xx (below21 w)
      | 2 => .p2xx (below21 w)
      | 3 => .p3xx (below21 w)
      | 4 => .p4xx (below21 w)
      | 5 => .p5xx (below21 w)
      | 6 => .p6xx (below21 w)
      | _ => .p7xx (below21 w) := by
  unfold decodePoseidon
  split <;> first | rfl | omega

/-- A Hermes word outside the given half-table (spec/30_encoding.md R113). -/
theorem decodeHermes_omitted (w : Order) (h : 32 ≤ (functionBits w).toNat) :
    decodeHermes w = match (topDigit w).toNat with
      | 0 => if w.getLsbD 19 then .h0_3x (below19 w) else .h0_2x (below19 w)
      | 1 => .h1xx (below21 w)
      | 2 => .h2xx (below21 w)
      | 3 => .h3xx (below21 w)
      | 4 => .h4xx (below21 w)
      | 5 => .h5xx (below21 w)
      | 6 => .h6xx (below21 w)
      | _ => .h7xx (below21 w) := by
  unfold decodeHermes
  split <;> first | rfl | omega

end Sys2Proof
end

