-- ==== Sys2Proof/Laws/Memory.lean ====
section
/-! SUPPORT. The stores: a read after a write, and the one form of a store, which every write keeps. -/

namespace Sys2Proof.Machine

variable {α : Type}

@[simp] theorem Cells.read?_nil (e : Nat) : Cells.read? ([] : Cells α) e = none := rfl

/-- A read of the address written gives the word written. -/
@[simp] theorem Cells.read?_write_same (m : Cells α) (e : Nat) (v : α) : Cells.read? (Cells.write m e v) e = some v := by
  induction m with
  | nil => simp [Cells.write, Cells.read?]
  | cons c rest ih =>
    obtain ⟨k, u⟩ := c
    simp only [Cells.write]
    split
    · simp [Cells.read?]
    · split
      · simp [Cells.read?]
      · next h1 h2 => simp [Cells.read?, Ne.symm h2, ih]

/-- A read of another address gives what it gave before. -/
theorem Cells.read?_write_other (m : Cells α) {e e' : Nat} (v : α) (h : e' ≠ e) :
    Cells.read? (Cells.write m e v) e' = Cells.read? m e' := by
  induction m with
  | nil => simp [Cells.write, Cells.read?, Ne.symm h]
  | cons c rest ih =>
    obtain ⟨k, u⟩ := c
    simp only [Cells.write]
    split
    · simp [Cells.read?, Ne.symm h]
    · split
      · next h1 h2 => subst h2; simp [Cells.read?, Ne.symm h]
      · simp [Cells.read?, ih]

/-- Every cell after a write is the one written or one that stood before. -/
theorem Cells.mem_write {m : Cells α} {e : Nat} {v : α} {c : Nat × α} (h : c ∈ Cells.write m e v) : c = (e, v) ∨ c ∈ m := by
  induction m with
  | nil => simpa [Cells.write] using h
  | cons d rest ih =>
    obtain ⟨k, u⟩ := d
    simp only [Cells.write] at h
    split at h
    · simpa using h
    · split at h
      · rcases List.mem_cons.1 h with rfl | h'
        · exact .inl rfl
        · exact .inr (List.mem_cons_of_mem _ h')
      · rcases List.mem_cons.1 h with rfl | h'
        · exact .inr (List.mem_cons_self ..)
        · exact (ih h').imp id (List.mem_cons_of_mem _)

/-- A write keeps the addresses strictly rising. -/
theorem Cells.write_sorted {m : Cells α} (h : m.sorted) (e : Nat) (v : α) : (Cells.write m e v).sorted := by
  induction m with
  | nil => simp [Cells.write, Cells.sorted]
  | cons d rest ih =>
    obtain ⟨k, u⟩ := d
    simp only [Cells.sorted, List.pairwise_cons] at h
    simp only [Cells.write]
    split
    · next hlt =>
      refine List.pairwise_cons.2 ⟨?_, List.pairwise_cons.2 h⟩
      intro c hc
      rcases List.mem_cons.1 hc with rfl | hc'
      · exact hlt
      · exact lt_trans hlt (h.1 c hc')
    · split
      · next h1 h2 => subst h2; exact List.pairwise_cons.2 h
      · next h1 h2 =>
        refine List.pairwise_cons.2 ⟨?_, ih h.2⟩
        intro c hc
        rcases Cells.mem_write hc with rfl | hc'
        · show k < e
          omega
        · exact h.1 c hc'

/-- What a read finds is a cell of the store. -/
theorem Cells.mem_of_read? {m : Cells α} {e : Nat} {v : α} (h : Cells.read? m e = some v) : (e, v) ∈ m := by
  induction m with
  | nil => simp at h
  | cons d rest ih =>
    obtain ⟨k, u⟩ := d
    simp only [Cells.read?] at h
    split at h
    · next hk => cases h; subst hk; exact List.mem_cons_self ..
    · exact List.mem_cons_of_mem _ (ih h)

/-- A write of a word that fits, at an address of the store, keeps the form. -/
theorem Memory.wf_write {w size : Nat} {m : Memory} (h : Memory.wf w size m) {e v : Nat} (he : e < size) (hv : v < 2 ^ w) :
    Memory.wf w size (Cells.write m e v) := by
  refine ⟨Cells.write_sorted h.1 e v, fun c hc => ?_⟩
  rcases Cells.mem_write hc with rfl | hc'
  · exact ⟨he, hv⟩
  · exact h.2 c hc'

/-- A word read from a store of the form fits. -/
theorem Memory.read_lt {w size : Nat} {m : Memory} (h : Memory.wf w size m) {e v : Nat} (hr : Cells.read? m e = some v) :
    v < 2 ^ w := (h.2 _ (Cells.mem_of_read? hr)).2

/-- Placing an order at an address of a program store keeps the form. -/
theorem Program.wf_write {size : Nat} {m : Program} (h : Program.wf size m) {e : Nat} {v : Order} (he : e < size) :
    Program.wf size (Cells.write m e v) := by
  refine ⟨Cells.write_sorted h.1 e v, fun c hc => ?_⟩
  rcases Cells.mem_write hc with rfl | hc'
  · exact he
  · exact h.2 c hc'

/-- The empty store has the form. -/
theorem Memory.wf_nil (w size : Nat) : Memory.wf w size [] := by simp [Memory.wf]

end Sys2Proof.Machine
end

