-- ==== Sys2Proof/Laws/State.lean ====
section
/-! SUPPORT. One lemma per field per update, so that no later proof unfolds an update. -/

namespace Sys2Proof.Machine

/-! ### The parts of the state -/

@[simp] theorem State.withP_running (y : PState) (s : State) : (s.withP y).running = s.running := rfl
@[simp] theorem State.withP_cfg (y : PState) (s : State) : (s.withP y).cfg = s.cfg := rfl
@[simp] theorem State.withP_p (y : PState) (s : State) : (s.withP y).p = y := rfl
@[simp] theorem State.withP_h (y : PState) (s : State) : (s.withP y).h = s.h := rfl
@[simp] theorem State.withP_a (y : PState) (s : State) : (s.withP y).a = s.a := rfl

@[simp] theorem State.withH_running (y : HState) (s : State) : (s.withH y).running = s.running := rfl
@[simp] theorem State.withH_cfg (y : HState) (s : State) : (s.withH y).cfg = s.cfg := rfl
@[simp] theorem State.withH_p (y : HState) (s : State) : (s.withH y).p = s.p := rfl
@[simp] theorem State.withH_h (y : HState) (s : State) : (s.withH y).h = y := rfl
@[simp] theorem State.withH_a (y : HState) (s : State) : (s.withH y).a = s.a := rfl

@[simp] theorem State.withA_running (y : AState) (s : State) : (s.withA y).running = s.running := rfl
@[simp] theorem State.withA_cfg (y : AState) (s : State) : (s.withA y).cfg = s.cfg := rfl
@[simp] theorem State.withA_p (y : AState) (s : State) : (s.withA y).p = s.p := rfl
@[simp] theorem State.withA_h (y : AState) (s : State) : (s.withA y).h = s.h := rfl
@[simp] theorem State.withA_a (y : AState) (s : State) : (s.withA y).a = y := rfl

/-! ### Poseidon updates -/

@[simp] theorem PState.writeR_r (k : Field5) (y : Nat) (p : PState) : (p.writeR k y).r = p.r.set k.toNat y k.isLt := rfl
@[simp] theorem PState.writeR_n (k : Field5) (y : Nat) (p : PState) : (p.writeR k y).n = p.n := rfl
@[simp] theorem PState.writeR_l (k : Field5) (y : Nat) (p : PState) : (p.writeR k y).l = p.l := rfl
@[simp] theorem PState.writeR_lambda (k : Field5) (y : Nat) (p : PState) : (p.writeR k y).lambda = p.lambda := rfl
@[simp] theorem PState.writeR_mu (k : Field5) (y : Nat) (p : PState) : (p.writeR k y).mu = p.mu := rfl
@[simp] theorem PState.writeR_alpha (k : Field5) (y : Nat) (p : PState) : (p.writeR k y).alpha = p.alpha := rfl
@[simp] theorem PState.writeR_kappa (k : Field5) (y : Nat) (p : PState) : (p.writeR k y).kappa = p.kappa := rfl
@[simp] theorem PState.writeR_crNeg (k : Field5) (y : Nat) (p : PState) : (p.writeR k y).crNeg = p.crNeg := rfl
@[simp] theorem PState.writeR_crZero (k : Field5) (y : Nat) (p : PState) : (p.writeR k y).crZero = p.crZero := rfl
@[simp] theorem PState.writeR_ovr (k : Field5) (y : Nat) (p : PState) : (p.writeR k y).ovr = p.ovr := rfl
@[simp] theorem PState.writeR_q (k : Field5) (y : Nat) (p : PState) : (p.writeR k y).q = p.q := rfl
@[simp] theorem PState.writeR_pc (k : Field5) (y : Nat) (p : PState) : (p.writeR k y).pc = p.pc := rfl
@[simp] theorem PState.writeR_mode (k : Field5) (y : Nat) (p : PState) : (p.writeR k y).mode = p.mode := rfl
@[simp] theorem PState.writeR_punch (k : Field5) (y : Nat) (p : PState) : (p.writeR k y).punch = p.punch := rfl
@[simp] theorem PState.writeR_fps (k : Field5) (y : Nat) (p : PState) : (p.writeR k y).fps = p.fps := rfl
@[simp] theorem PState.writeR_ds (k : Field5) (y : Nat) (p : PState) : (p.writeR k y).ds = p.ds := rfl
@[simp] theorem PState.writeR_history (k : Field5) (y : Nat) (p : PState) : (p.writeR k y).history = p.history := rfl

@[simp] theorem PState.countN_r (p : PState) : (p.countN).r = p.r := rfl
@[simp] theorem PState.countN_n (p : PState) : (p.countN).n = p.n + (if p.q10 then 2 else 1) := rfl
@[simp] theorem PState.countN_l (p : PState) : (p.countN).l = p.l := rfl
@[simp] theorem PState.countN_lambda (p : PState) : (p.countN).lambda = p.lambda := rfl
@[simp] theorem PState.countN_mu (p : PState) : (p.countN).mu = p.mu := rfl
@[simp] theorem PState.countN_alpha (p : PState) : (p.countN).alpha = p.alpha := rfl
@[simp] theorem PState.countN_kappa (p : PState) : (p.countN).kappa = p.kappa := rfl
@[simp] theorem PState.countN_crNeg (p : PState) : (p.countN).crNeg = p.crNeg := rfl
@[simp] theorem PState.countN_crZero (p : PState) : (p.countN).crZero = p.crZero := rfl
@[simp] theorem PState.countN_ovr (p : PState) : (p.countN).ovr = p.ovr := rfl
@[simp] theorem PState.countN_q (p : PState) : (p.countN).q = p.q := rfl
@[simp] theorem PState.countN_pc (p : PState) : (p.countN).pc = p.pc := rfl
@[simp] theorem PState.countN_mode (p : PState) : (p.countN).mode = p.mode := rfl
@[simp] theorem PState.countN_punch (p : PState) : (p.countN).punch = p.punch := rfl
@[simp] theorem PState.countN_fps (p : PState) : (p.countN).fps = p.fps := rfl
@[simp] theorem PState.countN_ds (p : PState) : (p.countN).ds = p.ds := rfl
@[simp] theorem PState.countN_history (p : PState) : (p.countN).history = p.history := rfl

@[simp] theorem PState.countLambda_r (p : PState) : (p.countLambda).r = p.r := rfl
@[simp] theorem PState.countLambda_n (p : PState) : (p.countLambda).n = p.n := rfl
@[simp] theorem PState.countLambda_l (p : PState) : (p.countLambda).l = p.l := rfl
@[simp] theorem PState.countLambda_lambda (p : PState) : (p.countLambda).lambda = p.lambda + 1 := rfl
@[simp] theorem PState.countLambda_mu (p : PState) : (p.countLambda).mu = p.mu := rfl
@[simp] theorem PState.countLambda_alpha (p : PState) : (p.countLambda).alpha = p.alpha := rfl
@[simp] theorem PState.countLambda_kappa (p : PState) : (p.countLambda).kappa = p.kappa := rfl
@[simp] theorem PState.countLambda_crNeg (p : PState) : (p.countLambda).crNeg = p.crNeg := rfl
@[simp] theorem PState.countLambda_crZero (p : PState) : (p.countLambda).crZero = p.crZero := rfl
@[simp] theorem PState.countLambda_ovr (p : PState) : (p.countLambda).ovr = p.ovr := rfl
@[simp] theorem PState.countLambda_q (p : PState) : (p.countLambda).q = p.q := rfl
@[simp] theorem PState.countLambda_pc (p : PState) : (p.countLambda).pc = p.pc := rfl
@[simp] theorem PState.countLambda_mode (p : PState) : (p.countLambda).mode = p.mode := rfl
@[simp] theorem PState.countLambda_punch (p : PState) : (p.countLambda).punch = p.punch := rfl
@[simp] theorem PState.countLambda_fps (p : PState) : (p.countLambda).fps = p.fps := rfl
@[simp] theorem PState.countLambda_ds (p : PState) : (p.countLambda).ds = p.ds := rfl
@[simp] theorem PState.countLambda_history (p : PState) : (p.countLambda).history = p.history := rfl

@[simp] theorem PState.punchOut_r (y : BitVec 5) (p : PState) : (p.punchOut y).r = p.r := rfl
@[simp] theorem PState.punchOut_n (y : BitVec 5) (p : PState) : (p.punchOut y).n = p.n := rfl
@[simp] theorem PState.punchOut_l (y : BitVec 5) (p : PState) : (p.punchOut y).l = p.l := rfl
@[simp] theorem PState.punchOut_lambda (y : BitVec 5) (p : PState) : (p.punchOut y).lambda = p.lambda := rfl
@[simp] theorem PState.punchOut_mu (y : BitVec 5) (p : PState) : (p.punchOut y).mu = p.mu := rfl
@[simp] theorem PState.punchOut_alpha (y : BitVec 5) (p : PState) : (p.punchOut y).alpha = p.alpha := rfl
@[simp] theorem PState.punchOut_kappa (y : BitVec 5) (p : PState) : (p.punchOut y).kappa = p.kappa := rfl
@[simp] theorem PState.punchOut_crNeg (y : BitVec 5) (p : PState) : (p.punchOut y).crNeg = p.crNeg := rfl
@[simp] theorem PState.punchOut_crZero (y : BitVec 5) (p : PState) : (p.punchOut y).crZero = p.crZero := rfl
@[simp] theorem PState.punchOut_ovr (y : BitVec 5) (p : PState) : (p.punchOut y).ovr = p.ovr := rfl
@[simp] theorem PState.punchOut_q (y : BitVec 5) (p : PState) : (p.punchOut y).q = p.q := rfl
@[simp] theorem PState.punchOut_pc (y : BitVec 5) (p : PState) : (p.punchOut y).pc = p.pc := rfl
@[simp] theorem PState.punchOut_mode (y : BitVec 5) (p : PState) : (p.punchOut y).mode = p.mode := rfl
@[simp] theorem PState.punchOut_punch (y : BitVec 5) (p : PState) : (p.punchOut y).punch = p.punch ++ [y] := rfl
@[simp] theorem PState.punchOut_fps (y : BitVec 5) (p : PState) : (p.punchOut y).fps = p.fps := rfl
@[simp] theorem PState.punchOut_ds (y : BitVec 5) (p : PState) : (p.punchOut y).ds = p.ds := rfl
@[simp] theorem PState.punchOut_history (y : BitVec 5) (p : PState) : (p.punchOut y).history = p.history := rfl

@[simp] theorem PState.record_r (y : List Event) (p : PState) : (p.record y).r = p.r := rfl
@[simp] theorem PState.record_n (y : List Event) (p : PState) : (p.record y).n = p.n := rfl
@[simp] theorem PState.record_l (y : List Event) (p : PState) : (p.record y).l = p.l := rfl
@[simp] theorem PState.record_lambda (y : List Event) (p : PState) : (p.record y).lambda = p.lambda := rfl
@[simp] theorem PState.record_mu (y : List Event) (p : PState) : (p.record y).mu = p.mu := rfl
@[simp] theorem PState.record_alpha (y : List Event) (p : PState) : (p.record y).alpha = p.alpha := rfl
@[simp] theorem PState.record_kappa (y : List Event) (p : PState) : (p.record y).kappa = p.kappa := rfl
@[simp] theorem PState.record_crNeg (y : List Event) (p : PState) : (p.record y).crNeg = p.crNeg := rfl
@[simp] theorem PState.record_crZero (y : List Event) (p : PState) : (p.record y).crZero = p.crZero := rfl
@[simp] theorem PState.record_ovr (y : List Event) (p : PState) : (p.record y).ovr = p.ovr := rfl
@[simp] theorem PState.record_q (y : List Event) (p : PState) : (p.record y).q = p.q := rfl
@[simp] theorem PState.record_pc (y : List Event) (p : PState) : (p.record y).pc = p.pc := rfl
@[simp] theorem PState.record_mode (y : List Event) (p : PState) : (p.record y).mode = p.mode := rfl
@[simp] theorem PState.record_punch (y : List Event) (p : PState) : (p.record y).punch = p.punch := rfl
@[simp] theorem PState.record_fps (y : List Event) (p : PState) : (p.record y).fps = p.fps := rfl
@[simp] theorem PState.record_ds (y : List Event) (p : PState) : (p.record y).ds = p.ds := rfl
@[simp] theorem PState.record_history (y : List Event) (p : PState) : (p.record y).history = p.history ++ y := rfl

@[simp] theorem PState.recordSum_r (w y : Nat) (o : Bool) (p : PState) : (p.recordSum w y o).r = p.r := rfl
@[simp] theorem PState.recordSum_n (w y : Nat) (o : Bool) (p : PState) : (p.recordSum w y o).n = p.n := rfl
@[simp] theorem PState.recordSum_l (w y : Nat) (o : Bool) (p : PState) : (p.recordSum w y o).l = p.l := rfl
@[simp] theorem PState.recordSum_lambda (w y : Nat) (o : Bool) (p : PState) : (p.recordSum w y o).lambda = p.lambda := rfl
@[simp] theorem PState.recordSum_mu (w y : Nat) (o : Bool) (p : PState) : (p.recordSum w y o).mu = p.mu := rfl
@[simp] theorem PState.recordSum_alpha (w y : Nat) (o : Bool) (p : PState) : (p.recordSum w y o).alpha = p.alpha := rfl
@[simp] theorem PState.recordSum_kappa (w y : Nat) (o : Bool) (p : PState) : (p.recordSum w y o).kappa = p.kappa := rfl
@[simp] theorem PState.recordSum_crNeg (w y : Nat) (o : Bool) (p : PState) : (p.recordSum w y o).crNeg = isNegative w y := rfl
@[simp] theorem PState.recordSum_crZero (w y : Nat) (o : Bool) (p : PState) : (p.recordSum w y o).crZero = decide (y = 0) := rfl
@[simp] theorem PState.recordSum_ovr (w y : Nat) (o : Bool) (p : PState) : (p.recordSum w y o).ovr = (p.ovr || o) := rfl
@[simp] theorem PState.recordSum_q (w y : Nat) (o : Bool) (p : PState) : (p.recordSum w y o).q = p.q := rfl
@[simp] theorem PState.recordSum_pc (w y : Nat) (o : Bool) (p : PState) : (p.recordSum w y o).pc = p.pc := rfl
@[simp] theorem PState.recordSum_mode (w y : Nat) (o : Bool) (p : PState) : (p.recordSum w y o).mode = p.mode := rfl
@[simp] theorem PState.recordSum_punch (w y : Nat) (o : Bool) (p : PState) : (p.recordSum w y o).punch = p.punch := rfl
@[simp] theorem PState.recordSum_fps (w y : Nat) (o : Bool) (p : PState) : (p.recordSum w y o).fps = p.fps := rfl
@[simp] theorem PState.recordSum_ds (w y : Nat) (o : Bool) (p : PState) : (p.recordSum w y o).ds = p.ds := rfl
@[simp] theorem PState.recordSum_history (w y : Nat) (o : Bool) (p : PState) : (p.recordSum w y o).history = p.history := rfl

@[simp] theorem PState.recordLogical_r (p : PState) : (p.recordLogical).r = p.r := rfl
@[simp] theorem PState.recordLogical_n (p : PState) : (p.recordLogical).n = p.n := rfl
@[simp] theorem PState.recordLogical_l (p : PState) : (p.recordLogical).l = p.l := rfl
@[simp] theorem PState.recordLogical_lambda (p : PState) : (p.recordLogical).lambda = p.lambda := rfl
@[simp] theorem PState.recordLogical_mu (p : PState) : (p.recordLogical).mu = p.mu := rfl
@[simp] theorem PState.recordLogical_alpha (p : PState) : (p.recordLogical).alpha = p.alpha := rfl
@[simp] theorem PState.recordLogical_kappa (p : PState) : (p.recordLogical).kappa = p.kappa := rfl
@[simp] theorem PState.recordLogical_crNeg (p : PState) : (p.recordLogical).crNeg = Config.drawnCrNeg p.history.length := rfl
@[simp] theorem PState.recordLogical_crZero (p : PState) : (p.recordLogical).crZero = Config.drawnCrZero p.history.length := rfl
@[simp] theorem PState.recordLogical_ovr (p : PState) : (p.recordLogical).ovr = p.ovr := rfl
@[simp] theorem PState.recordLogical_q (p : PState) : (p.recordLogical).q = p.q := rfl
@[simp] theorem PState.recordLogical_pc (p : PState) : (p.recordLogical).pc = p.pc := rfl
@[simp] theorem PState.recordLogical_mode (p : PState) : (p.recordLogical).mode = p.mode := rfl
@[simp] theorem PState.recordLogical_punch (p : PState) : (p.recordLogical).punch = p.punch := rfl
@[simp] theorem PState.recordLogical_fps (p : PState) : (p.recordLogical).fps = p.fps := rfl
@[simp] theorem PState.recordLogical_ds (p : PState) : (p.recordLogical).ds = p.ds := rfl
@[simp] theorem PState.recordLogical_history (p : PState) : (p.recordLogical).history = p.history ++ [.conditionRecord (Config.drawnCrNeg p.history.length) (Config.drawnCrZero p.history.length)] := rfl

@[simp] theorem PState.recordResult_r (c : Config) (f : PFunction) (bv cv y : Nat) (p : PState) : (p.recordResult c f bv cv y).r = p.r := by
  unfold PState.recordResult; split <;> rfl
@[simp] theorem PState.recordResult_n (c : Config) (f : PFunction) (bv cv y : Nat) (p : PState) : (p.recordResult c f bv cv y).n = p.n := by
  unfold PState.recordResult; split <;> rfl
@[simp] theorem PState.recordResult_l (c : Config) (f : PFunction) (bv cv y : Nat) (p : PState) : (p.recordResult c f bv cv y).l = p.l := by
  unfold PState.recordResult; split <;> rfl
@[simp] theorem PState.recordResult_lambda (c : Config) (f : PFunction) (bv cv y : Nat) (p : PState) : (p.recordResult c f bv cv y).lambda = p.lambda := by
  unfold PState.recordResult; split <;> rfl
@[simp] theorem PState.recordResult_mu (c : Config) (f : PFunction) (bv cv y : Nat) (p : PState) : (p.recordResult c f bv cv y).mu = p.mu := by
  unfold PState.recordResult; split <;> rfl
@[simp] theorem PState.recordResult_alpha (c : Config) (f : PFunction) (bv cv y : Nat) (p : PState) : (p.recordResult c f bv cv y).alpha = p.alpha := by
  unfold PState.recordResult; split <;> rfl
@[simp] theorem PState.recordResult_kappa (c : Config) (f : PFunction) (bv cv y : Nat) (p : PState) : (p.recordResult c f bv cv y).kappa = p.kappa := by
  unfold PState.recordResult; split <;> rfl
@[simp] theorem PState.recordResult_q (c : Config) (f : PFunction) (bv cv y : Nat) (p : PState) : (p.recordResult c f bv cv y).q = p.q := by
  unfold PState.recordResult; split <;> rfl
@[simp] theorem PState.recordResult_pc (c : Config) (f : PFunction) (bv cv y : Nat) (p : PState) : (p.recordResult c f bv cv y).pc = p.pc := by
  unfold PState.recordResult; split <;> rfl
@[simp] theorem PState.recordResult_mode (c : Config) (f : PFunction) (bv cv y : Nat) (p : PState) : (p.recordResult c f bv cv y).mode = p.mode := by
  unfold PState.recordResult; split <;> rfl
@[simp] theorem PState.recordResult_punch (c : Config) (f : PFunction) (bv cv y : Nat) (p : PState) : (p.recordResult c f bv cv y).punch = p.punch := by
  unfold PState.recordResult; split <;> rfl
@[simp] theorem PState.recordResult_fps (c : Config) (f : PFunction) (bv cv y : Nat) (p : PState) : (p.recordResult c f bv cv y).fps = p.fps := by
  unfold PState.recordResult; split <;> rfl
@[simp] theorem PState.recordResult_ds (c : Config) (f : PFunction) (bv cv y : Nat) (p : PState) : (p.recordResult c f bv cv y).ds = p.ds := by
  unfold PState.recordResult; split <;> rfl

@[simp] theorem PState.deliver_n (c : Config) (v : PVariant) (k : Field5) (y : Nat) (p : PState) : (p.deliver c v k y).n = p.n := by
  unfold PState.deliver; split <;> rfl
@[simp] theorem PState.deliver_l (c : Config) (v : PVariant) (k : Field5) (y : Nat) (p : PState) : (p.deliver c v k y).l = p.l := by
  unfold PState.deliver; split <;> rfl
@[simp] theorem PState.deliver_lambda (c : Config) (v : PVariant) (k : Field5) (y : Nat) (p : PState) : (p.deliver c v k y).lambda = p.lambda := by
  unfold PState.deliver; split <;> rfl
@[simp] theorem PState.deliver_mu (c : Config) (v : PVariant) (k : Field5) (y : Nat) (p : PState) : (p.deliver c v k y).mu = p.mu := by
  unfold PState.deliver; split <;> rfl
@[simp] theorem PState.deliver_alpha (c : Config) (v : PVariant) (k : Field5) (y : Nat) (p : PState) : (p.deliver c v k y).alpha = p.alpha := by
  unfold PState.deliver; split <;> rfl
@[simp] theorem PState.deliver_kappa (c : Config) (v : PVariant) (k : Field5) (y : Nat) (p : PState) : (p.deliver c v k y).kappa = p.kappa := by
  unfold PState.deliver; split <;> rfl
@[simp] theorem PState.deliver_crNeg (c : Config) (v : PVariant) (k : Field5) (y : Nat) (p : PState) : (p.deliver c v k y).crNeg = p.crNeg := by
  unfold PState.deliver; split <;> rfl
@[simp] theorem PState.deliver_crZero (c : Config) (v : PVariant) (k : Field5) (y : Nat) (p : PState) : (p.deliver c v k y).crZero = p.crZero := by
  unfold PState.deliver; split <;> rfl
@[simp] theorem PState.deliver_ovr (c : Config) (v : PVariant) (k : Field5) (y : Nat) (p : PState) : (p.deliver c v k y).ovr = p.ovr := by
  unfold PState.deliver; split <;> rfl
@[simp] theorem PState.deliver_q (c : Config) (v : PVariant) (k : Field5) (y : Nat) (p : PState) : (p.deliver c v k y).q = p.q := by
  unfold PState.deliver; split <;> rfl
@[simp] theorem PState.deliver_pc (c : Config) (v : PVariant) (k : Field5) (y : Nat) (p : PState) : (p.deliver c v k y).pc = p.pc := by
  unfold PState.deliver; split <;> rfl
@[simp] theorem PState.deliver_mode (c : Config) (v : PVariant) (k : Field5) (y : Nat) (p : PState) : (p.deliver c v k y).mode = p.mode := by
  unfold PState.deliver; split <;> rfl
@[simp] theorem PState.deliver_fps (c : Config) (v : PVariant) (k : Field5) (y : Nat) (p : PState) : (p.deliver c v k y).fps = p.fps := by
  unfold PState.deliver; split <;> rfl
@[simp] theorem PState.deliver_ds (c : Config) (v : PVariant) (k : Field5) (y : Nat) (p : PState) : (p.deliver c v k y).ds = p.ds := by
  unfold PState.deliver; split <;> rfl
@[simp] theorem PState.deliver_history (c : Config) (v : PVariant) (k : Field5) (y : Nat) (p : PState) : (p.deliver c v k y).history = p.history := by
  unfold PState.deliver; split <;> rfl

/-! ### Hermes updates -/

@[simp] theorem HState.record_v (y : List Event) (h : HState) : (h.record y).v = h.v := rfl
@[simp] theorem HState.record_n1 (y : List Event) (h : HState) : (h.record y).n1 = h.n1 := rfl
@[simp] theorem HState.record_pc (y : List Event) (h : HState) : (h.record y).pc = h.pc := rfl
@[simp] theorem HState.record_prog (y : List Event) (h : HState) : (h.record y).prog = h.prog := rfl
@[simp] theorem HState.record_history (y : List Event) (h : HState) : (h.record y).history = h.history ++ y := rfl

@[simp] theorem HState.jumpTo_v (y : Nat) (h : HState) : (h.jumpTo y).v = h.v := rfl
@[simp] theorem HState.jumpTo_n1 (y : Nat) (h : HState) : (h.jumpTo y).n1 = h.n1 := rfl
@[simp] theorem HState.jumpTo_pc (y : Nat) (h : HState) : (h.jumpTo y).pc = y := rfl
@[simp] theorem HState.jumpTo_prog (y : Nat) (h : HState) : (h.jumpTo y).prog = h.prog := rfl
@[simp] theorem HState.jumpTo_history (y : Nat) (h : HState) : (h.jumpTo y).history = h.history := rfl

@[simp] theorem HState.advance_v (c : Config) (h : HState) : (h.advance c).v = h.v := rfl
@[simp] theorem HState.advance_n1 (c : Config) (h : HState) : (h.advance c).n1 = h.n1 := rfl
@[simp] theorem HState.advance_pc (c : Config) (h : HState) : (h.advance c).pc = h.nextPc c := rfl
@[simp] theorem HState.advance_prog (c : Config) (h : HState) : (h.advance c).prog = h.prog := rfl
@[simp] theorem HState.advance_history (c : Config) (h : HState) : (h.advance c).history = h.history := rfl

@[simp] theorem HState.putV_v (e y : Nat) (h : HState) : (h.putV e y).v = Cells.write h.v e y := rfl
@[simp] theorem HState.putV_n1 (e y : Nat) (h : HState) : (h.putV e y).n1 = h.n1 := rfl
@[simp] theorem HState.putV_pc (e y : Nat) (h : HState) : (h.putV e y).pc = h.pc := rfl
@[simp] theorem HState.putV_prog (e y : Nat) (h : HState) : (h.putV e y).prog = h.prog := rfl
@[simp] theorem HState.putV_history (e y : Nat) (h : HState) : (h.putV e y).history = h.history := rfl

@[simp] theorem HState.setN1_v (y : Nat) (h : HState) : (h.setN1 y).v = h.v := rfl
@[simp] theorem HState.setN1_n1 (y : Nat) (h : HState) : (h.setN1 y).n1 = y := rfl
@[simp] theorem HState.setN1_pc (y : Nat) (h : HState) : (h.setN1 y).pc = h.pc := rfl
@[simp] theorem HState.setN1_prog (y : Nat) (h : HState) : (h.setN1 y).prog = h.prog := rfl
@[simp] theorem HState.setN1_history (y : Nat) (h : HState) : (h.setN1 y).history = h.history := rfl

@[simp] theorem HState.stepN1_v (c : Config) (k : N1Step) (h : HState) : (h.stepN1 c k).v = h.v := by
  unfold HState.stepN1; split <;> rfl
@[simp] theorem HState.stepN1_pc (c : Config) (k : N1Step) (h : HState) : (h.stepN1 c k).pc = h.pc := by
  unfold HState.stepN1; split <;> rfl
@[simp] theorem HState.stepN1_prog (c : Config) (k : N1Step) (h : HState) : (h.stepN1 c k).prog = h.prog := by
  unfold HState.stepN1; split <;> rfl
@[simp] theorem HState.stepN1_history (c : Config) (k : N1Step) (h : HState) : (h.stepN1 c k).history = h.history := by
  unfold HState.stepN1; split <;> rfl

/-! ### Argus updates -/

@[simp] theorem AState.setp_x (c : Config) (y : Nat) (a : AState) : (a.setp c y).x = (a.x.set 4 (pairFirst c.aLongOrder c.aW y)).set 5 (pairSecond c.aLongOrder c.aW y) := rfl
@[simp] theorem AState.setp_q1 (c : Config) (y : Nat) (a : AState) : (a.setp c y).q1 = a.q1 := rfl
@[simp] theorem AState.setp_q2 (c : Config) (y : Nat) (a : AState) : (a.setp c y).q2 = a.q2 := rfl
@[simp] theorem AState.setp_ovr (c : Config) (y : Nat) (a : AState) : (a.setp c y).ovr = a.ovr := rfl
@[simp] theorem AState.setp_mod (c : Config) (y : Nat) (a : AState) : (a.setp c y).mod = a.mod := rfl
@[simp] theorem AState.setp_link (c : Config) (y : Nat) (a : AState) : (a.setp c y).link = a.link := rfl
@[simp] theorem AState.setp_pc (c : Config) (y : Nat) (a : AState) : (a.setp c y).pc = a.pc := rfl
@[simp] theorem AState.setp_halted (c : Config) (y : Nat) (a : AState) : (a.setp c y).halted = a.halted := rfl
@[simp] theorem AState.setp_s (c : Config) (y : Nat) (a : AState) : (a.setp c y).s = a.s := rfl
@[simp] theorem AState.setp_reg20 (c : Config) (y : Nat) (a : AState) : (a.setp c y).reg20 = a.reg20 := rfl
@[simp] theorem AState.setp_reg22 (c : Config) (y : Nat) (a : AState) : (a.setp c y).reg22 = a.reg22 := rfl
@[simp] theorem AState.setp_prog (c : Config) (y : Nat) (a : AState) : (a.setp c y).prog = a.prog := rfl
@[simp] theorem AState.setp_history (c : Config) (y : Nat) (a : AState) : (a.setp c y).history = a.history := rfl

@[simp] theorem AState.setq_x (c : Config) (y : Nat) (a : AState) : (a.setq c y).x = a.x := rfl
@[simp] theorem AState.setq_q1 (c : Config) (y : Nat) (a : AState) : (a.setq c y).q1 = pairFirst c.aLongOrder c.aW y := rfl
@[simp] theorem AState.setq_q2 (c : Config) (y : Nat) (a : AState) : (a.setq c y).q2 = pairSecond c.aLongOrder c.aW y := rfl
@[simp] theorem AState.setq_ovr (c : Config) (y : Nat) (a : AState) : (a.setq c y).ovr = a.ovr := rfl
@[simp] theorem AState.setq_mod (c : Config) (y : Nat) (a : AState) : (a.setq c y).mod = a.mod := rfl
@[simp] theorem AState.setq_link (c : Config) (y : Nat) (a : AState) : (a.setq c y).link = a.link := rfl
@[simp] theorem AState.setq_pc (c : Config) (y : Nat) (a : AState) : (a.setq c y).pc = a.pc := rfl
@[simp] theorem AState.setq_halted (c : Config) (y : Nat) (a : AState) : (a.setq c y).halted = a.halted := rfl
@[simp] theorem AState.setq_s (c : Config) (y : Nat) (a : AState) : (a.setq c y).s = a.s := rfl
@[simp] theorem AState.setq_reg20 (c : Config) (y : Nat) (a : AState) : (a.setq c y).reg20 = a.reg20 := rfl
@[simp] theorem AState.setq_reg22 (c : Config) (y : Nat) (a : AState) : (a.setq c y).reg22 = a.reg22 := rfl
@[simp] theorem AState.setq_prog (c : Config) (y : Nat) (a : AState) : (a.setq c y).prog = a.prog := rfl
@[simp] theorem AState.setq_history (c : Config) (y : Nat) (a : AState) : (a.setq c y).history = a.history := rfl

@[simp] theorem AState.setpq_x (c : Config) (y : Nat) (a : AState) : (a.setpq c y).x = (a.setp c (pairFirst c.aLongOrder (2 * c.aW) y)).x := rfl
@[simp] theorem AState.setpq_q1 (c : Config) (y : Nat) (a : AState) : (a.setpq c y).q1 = pairFirst c.aLongOrder c.aW (pairSecond c.aLongOrder (2 * c.aW) y) := rfl
@[simp] theorem AState.setpq_q2 (c : Config) (y : Nat) (a : AState) : (a.setpq c y).q2 = pairSecond c.aLongOrder c.aW (pairSecond c.aLongOrder (2 * c.aW) y) := rfl
@[simp] theorem AState.setpq_ovr (c : Config) (y : Nat) (a : AState) : (a.setpq c y).ovr = a.ovr := rfl
@[simp] theorem AState.setpq_mod (c : Config) (y : Nat) (a : AState) : (a.setpq c y).mod = a.mod := rfl
@[simp] theorem AState.setpq_link (c : Config) (y : Nat) (a : AState) : (a.setpq c y).link = a.link := rfl
@[simp] theorem AState.setpq_pc (c : Config) (y : Nat) (a : AState) : (a.setpq c y).pc = a.pc := rfl
@[simp] theorem AState.setpq_halted (c : Config) (y : Nat) (a : AState) : (a.setpq c y).halted = a.halted := rfl
@[simp] theorem AState.setpq_s (c : Config) (y : Nat) (a : AState) : (a.setpq c y).s = a.s := rfl
@[simp] theorem AState.setpq_reg20 (c : Config) (y : Nat) (a : AState) : (a.setpq c y).reg20 = a.reg20 := rfl
@[simp] theorem AState.setpq_reg22 (c : Config) (y : Nat) (a : AState) : (a.setpq c y).reg22 = a.reg22 := rfl
@[simp] theorem AState.setpq_prog (c : Config) (y : Nat) (a : AState) : (a.setpq c y).prog = a.prog := rfl
@[simp] theorem AState.setpq_history (c : Config) (y : Nat) (a : AState) : (a.setpq c y).history = a.history := rfl

@[simp] theorem AState.setx_ovr (c : Config) (x : BitVec 3) (y : Nat) (a : AState) : (a.setx c x y).ovr = a.ovr := by
  unfold AState.setx; split
  · rfl
  · split <;> rfl
@[simp] theorem AState.setx_mod (c : Config) (x : BitVec 3) (y : Nat) (a : AState) : (a.setx c x y).mod = a.mod := by
  unfold AState.setx; split
  · rfl
  · split <;> rfl
@[simp] theorem AState.setx_link (c : Config) (x : BitVec 3) (y : Nat) (a : AState) : (a.setx c x y).link = a.link := by
  unfold AState.setx; split
  · rfl
  · split <;> rfl
@[simp] theorem AState.setx_pc (c : Config) (x : BitVec 3) (y : Nat) (a : AState) : (a.setx c x y).pc = a.pc := by
  unfold AState.setx; split
  · rfl
  · split <;> rfl
@[simp] theorem AState.setx_halted (c : Config) (x : BitVec 3) (y : Nat) (a : AState) : (a.setx c x y).halted = a.halted := by
  unfold AState.setx; split
  · rfl
  · split <;> rfl
@[simp] theorem AState.setx_s (c : Config) (x : BitVec 3) (y : Nat) (a : AState) : (a.setx c x y).s = a.s := by
  unfold AState.setx; split
  · rfl
  · split <;> rfl
@[simp] theorem AState.setx_reg20 (c : Config) (x : BitVec 3) (y : Nat) (a : AState) : (a.setx c x y).reg20 = a.reg20 := by
  unfold AState.setx; split
  · rfl
  · split <;> rfl
@[simp] theorem AState.setx_reg22 (c : Config) (x : BitVec 3) (y : Nat) (a : AState) : (a.setx c x y).reg22 = a.reg22 := by
  unfold AState.setx; split
  · rfl
  · split <;> rfl
@[simp] theorem AState.setx_prog (c : Config) (x : BitVec 3) (y : Nat) (a : AState) : (a.setx c x y).prog = a.prog := by
  unfold AState.setx; split
  · rfl
  · split <;> rfl
@[simp] theorem AState.setx_history (c : Config) (x : BitVec 3) (y : Nat) (a : AState) : (a.setx c x y).history = a.history := by
  unfold AState.setx; split
  · rfl
  · split <;> rfl

@[simp] theorem AState.setProduct_ovr (c : Config) (x : BitVec 3) (y : Nat) (a : AState) : (a.setProduct c x y).ovr = a.ovr := by
  unfold AState.setProduct; split <;> rfl
@[simp] theorem AState.setProduct_mod (c : Config) (x : BitVec 3) (y : Nat) (a : AState) : (a.setProduct c x y).mod = a.mod := by
  unfold AState.setProduct; split <;> rfl
@[simp] theorem AState.setProduct_link (c : Config) (x : BitVec 3) (y : Nat) (a : AState) : (a.setProduct c x y).link = a.link := by
  unfold AState.setProduct; split <;> rfl
@[simp] theorem AState.setProduct_pc (c : Config) (x : BitVec 3) (y : Nat) (a : AState) : (a.setProduct c x y).pc = a.pc := by
  unfold AState.setProduct; split <;> rfl
@[simp] theorem AState.setProduct_halted (c : Config) (x : BitVec 3) (y : Nat) (a : AState) : (a.setProduct c x y).halted = a.halted := by
  unfold AState.setProduct; split <;> rfl
@[simp] theorem AState.setProduct_s (c : Config) (x : BitVec 3) (y : Nat) (a : AState) : (a.setProduct c x y).s = a.s := by
  unfold AState.setProduct; split <;> rfl
@[simp] theorem AState.setProduct_reg20 (c : Config) (x : BitVec 3) (y : Nat) (a : AState) : (a.setProduct c x y).reg20 = a.reg20 := by
  unfold AState.setProduct; split <;> rfl
@[simp] theorem AState.setProduct_reg22 (c : Config) (x : BitVec 3) (y : Nat) (a : AState) : (a.setProduct c x y).reg22 = a.reg22 := by
  unfold AState.setProduct; split <;> rfl
@[simp] theorem AState.setProduct_prog (c : Config) (x : BitVec 3) (y : Nat) (a : AState) : (a.setProduct c x y).prog = a.prog := by
  unfold AState.setProduct; split <;> rfl
@[simp] theorem AState.setProduct_history (c : Config) (x : BitVec 3) (y : Nat) (a : AState) : (a.setProduct c x y).history = a.history := by
  unfold AState.setProduct; split <;> rfl

@[simp] theorem AState.clearRemainder_ovr (x : BitVec 3) (a : AState) : (a.clearRemainder x).ovr = a.ovr := by
  unfold AState.clearRemainder; split <;> rfl
@[simp] theorem AState.clearRemainder_mod (x : BitVec 3) (a : AState) : (a.clearRemainder x).mod = a.mod := by
  unfold AState.clearRemainder; split <;> rfl
@[simp] theorem AState.clearRemainder_link (x : BitVec 3) (a : AState) : (a.clearRemainder x).link = a.link := by
  unfold AState.clearRemainder; split <;> rfl
@[simp] theorem AState.clearRemainder_pc (x : BitVec 3) (a : AState) : (a.clearRemainder x).pc = a.pc := by
  unfold AState.clearRemainder; split <;> rfl
@[simp] theorem AState.clearRemainder_halted (x : BitVec 3) (a : AState) : (a.clearRemainder x).halted = a.halted := by
  unfold AState.clearRemainder; split <;> rfl
@[simp] theorem AState.clearRemainder_s (x : BitVec 3) (a : AState) : (a.clearRemainder x).s = a.s := by
  unfold AState.clearRemainder; split <;> rfl
@[simp] theorem AState.clearRemainder_reg20 (x : BitVec 3) (a : AState) : (a.clearRemainder x).reg20 = a.reg20 := by
  unfold AState.clearRemainder; split <;> rfl
@[simp] theorem AState.clearRemainder_reg22 (x : BitVec 3) (a : AState) : (a.clearRemainder x).reg22 = a.reg22 := by
  unfold AState.clearRemainder; split <;> rfl
@[simp] theorem AState.clearRemainder_prog (x : BitVec 3) (a : AState) : (a.clearRemainder x).prog = a.prog := by
  unfold AState.clearRemainder; split <;> rfl
@[simp] theorem AState.clearRemainder_history (x : BitVec 3) (a : AState) : (a.clearRemainder x).history = a.history := by
  unfold AState.clearRemainder; split <;> rfl

@[simp] theorem AState.putS_x (e y : Nat) (a : AState) : (a.putS e y).x = a.x := rfl
@[simp] theorem AState.putS_q1 (e y : Nat) (a : AState) : (a.putS e y).q1 = a.q1 := rfl
@[simp] theorem AState.putS_q2 (e y : Nat) (a : AState) : (a.putS e y).q2 = a.q2 := rfl
@[simp] theorem AState.putS_ovr (e y : Nat) (a : AState) : (a.putS e y).ovr = a.ovr := rfl
@[simp] theorem AState.putS_mod (e y : Nat) (a : AState) : (a.putS e y).mod = a.mod := rfl
@[simp] theorem AState.putS_link (e y : Nat) (a : AState) : (a.putS e y).link = a.link := rfl
@[simp] theorem AState.putS_pc (e y : Nat) (a : AState) : (a.putS e y).pc = a.pc := rfl
@[simp] theorem AState.putS_halted (e y : Nat) (a : AState) : (a.putS e y).halted = a.halted := rfl
@[simp] theorem AState.putS_s (e y : Nat) (a : AState) : (a.putS e y).s = Cells.write a.s e y := rfl
@[simp] theorem AState.putS_reg20 (e y : Nat) (a : AState) : (a.putS e y).reg20 = a.reg20 := rfl
@[simp] theorem AState.putS_reg22 (e y : Nat) (a : AState) : (a.putS e y).reg22 = a.reg22 := rfl
@[simp] theorem AState.putS_prog (e y : Nat) (a : AState) : (a.putS e y).prog = a.prog := rfl
@[simp] theorem AState.putS_history (e y : Nat) (a : AState) : (a.putS e y).history = a.history := rfl

@[simp] theorem AState.putOperand_x (c : Config) (x : BitVec 3) (e : Addr13) (y : Nat) (a : AState) : (a.putOperand c x e y).x = a.x := by
  unfold AState.putOperand; split <;> rfl
@[simp] theorem AState.putOperand_q1 (c : Config) (x : BitVec 3) (e : Addr13) (y : Nat) (a : AState) : (a.putOperand c x e y).q1 = a.q1 := by
  unfold AState.putOperand; split <;> rfl
@[simp] theorem AState.putOperand_q2 (c : Config) (x : BitVec 3) (e : Addr13) (y : Nat) (a : AState) : (a.putOperand c x e y).q2 = a.q2 := by
  unfold AState.putOperand; split <;> rfl
@[simp] theorem AState.putOperand_ovr (c : Config) (x : BitVec 3) (e : Addr13) (y : Nat) (a : AState) : (a.putOperand c x e y).ovr = a.ovr := by
  unfold AState.putOperand; split <;> rfl
@[simp] theorem AState.putOperand_mod (c : Config) (x : BitVec 3) (e : Addr13) (y : Nat) (a : AState) : (a.putOperand c x e y).mod = a.mod := by
  unfold AState.putOperand; split <;> rfl
@[simp] theorem AState.putOperand_link (c : Config) (x : BitVec 3) (e : Addr13) (y : Nat) (a : AState) : (a.putOperand c x e y).link = a.link := by
  unfold AState.putOperand; split <;> rfl
@[simp] theorem AState.putOperand_pc (c : Config) (x : BitVec 3) (e : Addr13) (y : Nat) (a : AState) : (a.putOperand c x e y).pc = a.pc := by
  unfold AState.putOperand; split <;> rfl
@[simp] theorem AState.putOperand_halted (c : Config) (x : BitVec 3) (e : Addr13) (y : Nat) (a : AState) : (a.putOperand c x e y).halted = a.halted := by
  unfold AState.putOperand; split <;> rfl
@[simp] theorem AState.putOperand_reg20 (c : Config) (x : BitVec 3) (e : Addr13) (y : Nat) (a : AState) : (a.putOperand c x e y).reg20 = a.reg20 := by
  unfold AState.putOperand; split <;> rfl
@[simp] theorem AState.putOperand_reg22 (c : Config) (x : BitVec 3) (e : Addr13) (y : Nat) (a : AState) : (a.putOperand c x e y).reg22 = a.reg22 := by
  unfold AState.putOperand; split <;> rfl
@[simp] theorem AState.putOperand_prog (c : Config) (x : BitVec 3) (e : Addr13) (y : Nat) (a : AState) : (a.putOperand c x e y).prog = a.prog := by
  unfold AState.putOperand; split <;> rfl
@[simp] theorem AState.putOperand_history (c : Config) (x : BitVec 3) (e : Addr13) (y : Nat) (a : AState) : (a.putOperand c x e y).history = a.history := by
  unfold AState.putOperand; split <;> rfl

@[simp] theorem AState.noteOverflow_x (o : Bool) (a : AState) : (a.noteOverflow o).x = a.x := rfl
@[simp] theorem AState.noteOverflow_q1 (o : Bool) (a : AState) : (a.noteOverflow o).q1 = a.q1 := rfl
@[simp] theorem AState.noteOverflow_q2 (o : Bool) (a : AState) : (a.noteOverflow o).q2 = a.q2 := rfl
@[simp] theorem AState.noteOverflow_ovr (o : Bool) (a : AState) : (a.noteOverflow o).ovr = (a.ovr || o) := rfl
@[simp] theorem AState.noteOverflow_mod (o : Bool) (a : AState) : (a.noteOverflow o).mod = a.mod := rfl
@[simp] theorem AState.noteOverflow_link (o : Bool) (a : AState) : (a.noteOverflow o).link = a.link := rfl
@[simp] theorem AState.noteOverflow_pc (o : Bool) (a : AState) : (a.noteOverflow o).pc = a.pc := rfl
@[simp] theorem AState.noteOverflow_halted (o : Bool) (a : AState) : (a.noteOverflow o).halted = a.halted := rfl
@[simp] theorem AState.noteOverflow_s (o : Bool) (a : AState) : (a.noteOverflow o).s = a.s := rfl
@[simp] theorem AState.noteOverflow_reg20 (o : Bool) (a : AState) : (a.noteOverflow o).reg20 = a.reg20 := rfl
@[simp] theorem AState.noteOverflow_reg22 (o : Bool) (a : AState) : (a.noteOverflow o).reg22 = a.reg22 := rfl
@[simp] theorem AState.noteOverflow_prog (o : Bool) (a : AState) : (a.noteOverflow o).prog = a.prog := rfl
@[simp] theorem AState.noteOverflow_history (o : Bool) (a : AState) : (a.noteOverflow o).history = a.history := rfl

@[simp] theorem AState.record_x (y : List Event) (a : AState) : (a.record y).x = a.x := rfl
@[simp] theorem AState.record_q1 (y : List Event) (a : AState) : (a.record y).q1 = a.q1 := rfl
@[simp] theorem AState.record_q2 (y : List Event) (a : AState) : (a.record y).q2 = a.q2 := rfl
@[simp] theorem AState.record_ovr (y : List Event) (a : AState) : (a.record y).ovr = a.ovr := rfl
@[simp] theorem AState.record_mod (y : List Event) (a : AState) : (a.record y).mod = a.mod := rfl
@[simp] theorem AState.record_link (y : List Event) (a : AState) : (a.record y).link = a.link := rfl
@[simp] theorem AState.record_pc (y : List Event) (a : AState) : (a.record y).pc = a.pc := rfl
@[simp] theorem AState.record_halted (y : List Event) (a : AState) : (a.record y).halted = a.halted := rfl
@[simp] theorem AState.record_s (y : List Event) (a : AState) : (a.record y).s = a.s := rfl
@[simp] theorem AState.record_reg20 (y : List Event) (a : AState) : (a.record y).reg20 = a.reg20 := rfl
@[simp] theorem AState.record_reg22 (y : List Event) (a : AState) : (a.record y).reg22 = a.reg22 := rfl
@[simp] theorem AState.record_prog (y : List Event) (a : AState) : (a.record y).prog = a.prog := rfl
@[simp] theorem AState.record_history (y : List Event) (a : AState) : (a.record y).history = a.history ++ y := rfl

@[simp] theorem AState.jumpTo_x (y : Addr13) (a : AState) : (a.jumpTo y).x = a.x := rfl
@[simp] theorem AState.jumpTo_q1 (y : Addr13) (a : AState) : (a.jumpTo y).q1 = a.q1 := rfl
@[simp] theorem AState.jumpTo_q2 (y : Addr13) (a : AState) : (a.jumpTo y).q2 = a.q2 := rfl
@[simp] theorem AState.jumpTo_ovr (y : Addr13) (a : AState) : (a.jumpTo y).ovr = a.ovr := rfl
@[simp] theorem AState.jumpTo_mod (y : Addr13) (a : AState) : (a.jumpTo y).mod = a.mod := rfl
@[simp] theorem AState.jumpTo_link (y : Addr13) (a : AState) : (a.jumpTo y).link = a.link := rfl
@[simp] theorem AState.jumpTo_pc (y : Addr13) (a : AState) : (a.jumpTo y).pc = y := rfl
@[simp] theorem AState.jumpTo_halted (y : Addr13) (a : AState) : (a.jumpTo y).halted = a.halted := rfl
@[simp] theorem AState.jumpTo_s (y : Addr13) (a : AState) : (a.jumpTo y).s = a.s := rfl
@[simp] theorem AState.jumpTo_reg20 (y : Addr13) (a : AState) : (a.jumpTo y).reg20 = a.reg20 := rfl
@[simp] theorem AState.jumpTo_reg22 (y : Addr13) (a : AState) : (a.jumpTo y).reg22 = a.reg22 := rfl
@[simp] theorem AState.jumpTo_prog (y : Addr13) (a : AState) : (a.jumpTo y).prog = a.prog := rfl
@[simp] theorem AState.jumpTo_history (y : Addr13) (a : AState) : (a.jumpTo y).history = a.history := rfl

@[simp] theorem AState.advance_x (a : AState) : (a.advance).x = a.x := rfl
@[simp] theorem AState.advance_q1 (a : AState) : (a.advance).q1 = a.q1 := rfl
@[simp] theorem AState.advance_q2 (a : AState) : (a.advance).q2 = a.q2 := rfl
@[simp] theorem AState.advance_ovr (a : AState) : (a.advance).ovr = a.ovr := rfl
@[simp] theorem AState.advance_mod (a : AState) : (a.advance).mod = a.mod := rfl
@[simp] theorem AState.advance_link (a : AState) : (a.advance).link = a.link := rfl
@[simp] theorem AState.advance_pc (a : AState) : (a.advance).pc = a.pc + 1 := rfl
@[simp] theorem AState.advance_halted (a : AState) : (a.advance).halted = a.halted := rfl
@[simp] theorem AState.advance_s (a : AState) : (a.advance).s = a.s := rfl
@[simp] theorem AState.advance_reg20 (a : AState) : (a.advance).reg20 = a.reg20 := rfl
@[simp] theorem AState.advance_reg22 (a : AState) : (a.advance).reg22 = a.reg22 := rfl
@[simp] theorem AState.advance_prog (a : AState) : (a.advance).prog = a.prog := rfl
@[simp] theorem AState.advance_history (a : AState) : (a.advance).history = a.history := rfl

@[simp] theorem AState.jumpIf_x (b : Bool) (y : Addr13) (a : AState) : (a.jumpIf b y).x = a.x := by
  unfold AState.jumpIf; split <;> rfl
@[simp] theorem AState.jumpIf_q1 (b : Bool) (y : Addr13) (a : AState) : (a.jumpIf b y).q1 = a.q1 := by
  unfold AState.jumpIf; split <;> rfl
@[simp] theorem AState.jumpIf_q2 (b : Bool) (y : Addr13) (a : AState) : (a.jumpIf b y).q2 = a.q2 := by
  unfold AState.jumpIf; split <;> rfl
@[simp] theorem AState.jumpIf_ovr (b : Bool) (y : Addr13) (a : AState) : (a.jumpIf b y).ovr = a.ovr := by
  unfold AState.jumpIf; split <;> rfl
@[simp] theorem AState.jumpIf_mod (b : Bool) (y : Addr13) (a : AState) : (a.jumpIf b y).mod = a.mod := by
  unfold AState.jumpIf; split <;> rfl
@[simp] theorem AState.jumpIf_link (b : Bool) (y : Addr13) (a : AState) : (a.jumpIf b y).link = a.link := by
  unfold AState.jumpIf; split <;> rfl
@[simp] theorem AState.jumpIf_halted (b : Bool) (y : Addr13) (a : AState) : (a.jumpIf b y).halted = a.halted := by
  unfold AState.jumpIf; split <;> rfl
@[simp] theorem AState.jumpIf_s (b : Bool) (y : Addr13) (a : AState) : (a.jumpIf b y).s = a.s := by
  unfold AState.jumpIf; split <;> rfl
@[simp] theorem AState.jumpIf_reg20 (b : Bool) (y : Addr13) (a : AState) : (a.jumpIf b y).reg20 = a.reg20 := by
  unfold AState.jumpIf; split <;> rfl
@[simp] theorem AState.jumpIf_reg22 (b : Bool) (y : Addr13) (a : AState) : (a.jumpIf b y).reg22 = a.reg22 := by
  unfold AState.jumpIf; split <;> rfl
@[simp] theorem AState.jumpIf_prog (b : Bool) (y : Addr13) (a : AState) : (a.jumpIf b y).prog = a.prog := by
  unfold AState.jumpIf; split <;> rfl
@[simp] theorem AState.jumpIf_history (b : Bool) (y : Addr13) (a : AState) : (a.jumpIf b y).history = a.history := by
  unfold AState.jumpIf; split <;> rfl

@[simp] theorem AState.jumpIf_pc (b : Bool) (y : Addr13) (a : AState) : (a.jumpIf b y).pc = if b then y else a.pc + 1 := by
  unfold AState.jumpIf; split <;> rfl

@[simp] theorem AState.countModifier_x (c : Config) (m : BitVec 2) (k : Addr13) (a : AState) : (a.countModifier c m k).x = a.x := by
  unfold AState.countModifier; split <;> rfl
@[simp] theorem AState.countModifier_q1 (c : Config) (m : BitVec 2) (k : Addr13) (a : AState) : (a.countModifier c m k).q1 = a.q1 := by
  unfold AState.countModifier; split <;> rfl
@[simp] theorem AState.countModifier_q2 (c : Config) (m : BitVec 2) (k : Addr13) (a : AState) : (a.countModifier c m k).q2 = a.q2 := by
  unfold AState.countModifier; split <;> rfl
@[simp] theorem AState.countModifier_ovr (c : Config) (m : BitVec 2) (k : Addr13) (a : AState) : (a.countModifier c m k).ovr = a.ovr := by
  unfold AState.countModifier; split <;> rfl
@[simp] theorem AState.countModifier_link (c : Config) (m : BitVec 2) (k : Addr13) (a : AState) : (a.countModifier c m k).link = a.link := by
  unfold AState.countModifier; split <;> rfl
@[simp] theorem AState.countModifier_pc (c : Config) (m : BitVec 2) (k : Addr13) (a : AState) : (a.countModifier c m k).pc = a.pc := by
  unfold AState.countModifier; split <;> rfl
@[simp] theorem AState.countModifier_halted (c : Config) (m : BitVec 2) (k : Addr13) (a : AState) : (a.countModifier c m k).halted = a.halted := by
  unfold AState.countModifier; split <;> rfl
@[simp] theorem AState.countModifier_s (c : Config) (m : BitVec 2) (k : Addr13) (a : AState) : (a.countModifier c m k).s = a.s := by
  unfold AState.countModifier; split <;> rfl
@[simp] theorem AState.countModifier_reg20 (c : Config) (m : BitVec 2) (k : Addr13) (a : AState) : (a.countModifier c m k).reg20 = a.reg20 := by
  unfold AState.countModifier; split <;> rfl
@[simp] theorem AState.countModifier_reg22 (c : Config) (m : BitVec 2) (k : Addr13) (a : AState) : (a.countModifier c m k).reg22 = a.reg22 := by
  unfold AState.countModifier; split <;> rfl
@[simp] theorem AState.countModifier_prog (c : Config) (m : BitVec 2) (k : Addr13) (a : AState) : (a.countModifier c m k).prog = a.prog := by
  unfold AState.countModifier; split <;> rfl
@[simp] theorem AState.countModifier_history (c : Config) (m : BitVec 2) (k : Addr13) (a : AState) : (a.countModifier c m k).history = a.history := by
  unfold AState.countModifier; split <;> rfl

@[simp] theorem AState.takeInterruption_x (y : Addr13) (a : AState) : (a.takeInterruption y).x = a.x := rfl
@[simp] theorem AState.takeInterruption_q1 (y : Addr13) (a : AState) : (a.takeInterruption y).q1 = a.q1 := rfl
@[simp] theorem AState.takeInterruption_q2 (y : Addr13) (a : AState) : (a.takeInterruption y).q2 = a.q2 := rfl
@[simp] theorem AState.takeInterruption_ovr (y : Addr13) (a : AState) : (a.takeInterruption y).ovr = a.ovr := rfl
@[simp] theorem AState.takeInterruption_mod (y : Addr13) (a : AState) : (a.takeInterruption y).mod = a.mod := rfl
@[simp] theorem AState.takeInterruption_link (y : Addr13) (a : AState) : (a.takeInterruption y).link = a.pc := rfl
@[simp] theorem AState.takeInterruption_pc (y : Addr13) (a : AState) : (a.takeInterruption y).pc = y := rfl
@[simp] theorem AState.takeInterruption_halted (y : Addr13) (a : AState) : (a.takeInterruption y).halted = a.halted := rfl
@[simp] theorem AState.takeInterruption_s (y : Addr13) (a : AState) : (a.takeInterruption y).s = a.s := rfl
@[simp] theorem AState.takeInterruption_reg20 (y : Addr13) (a : AState) : (a.takeInterruption y).reg20 = a.reg20 := rfl
@[simp] theorem AState.takeInterruption_reg22 (y : Addr13) (a : AState) : (a.takeInterruption y).reg22 = a.reg22 := rfl
@[simp] theorem AState.takeInterruption_prog (y : Addr13) (a : AState) : (a.takeInterruption y).prog = a.prog := rfl
@[simp] theorem AState.takeInterruption_history (y : Addr13) (a : AState) : (a.takeInterruption y).history = a.history := rfl

@[simp] theorem AState.returnFromInterruption_x (a : AState) : (a.returnFromInterruption).x = a.x := rfl
@[simp] theorem AState.returnFromInterruption_q1 (a : AState) : (a.returnFromInterruption).q1 = a.q1 := rfl
@[simp] theorem AState.returnFromInterruption_q2 (a : AState) : (a.returnFromInterruption).q2 = a.q2 := rfl
@[simp] theorem AState.returnFromInterruption_ovr (a : AState) : (a.returnFromInterruption).ovr = a.ovr := rfl
@[simp] theorem AState.returnFromInterruption_mod (a : AState) : (a.returnFromInterruption).mod = a.mod := rfl
@[simp] theorem AState.returnFromInterruption_link (a : AState) : (a.returnFromInterruption).link = a.link := rfl
@[simp] theorem AState.returnFromInterruption_pc (a : AState) : (a.returnFromInterruption).pc = a.link := rfl
@[simp] theorem AState.returnFromInterruption_halted (a : AState) : (a.returnFromInterruption).halted = a.halted := rfl
@[simp] theorem AState.returnFromInterruption_s (a : AState) : (a.returnFromInterruption).s = a.s := rfl
@[simp] theorem AState.returnFromInterruption_reg20 (a : AState) : (a.returnFromInterruption).reg20 = a.reg20 := rfl
@[simp] theorem AState.returnFromInterruption_reg22 (a : AState) : (a.returnFromInterruption).reg22 = a.reg22 := rfl
@[simp] theorem AState.returnFromInterruption_prog (a : AState) : (a.returnFromInterruption).prog = a.prog := rfl
@[simp] theorem AState.returnFromInterruption_history (a : AState) : (a.returnFromInterruption).history = a.history := rfl

@[simp] theorem AState.stop_x (a : AState) : (a.stop).x = a.x := rfl
@[simp] theorem AState.stop_q1 (a : AState) : (a.stop).q1 = a.q1 := rfl
@[simp] theorem AState.stop_q2 (a : AState) : (a.stop).q2 = a.q2 := rfl
@[simp] theorem AState.stop_ovr (a : AState) : (a.stop).ovr = a.ovr := rfl
@[simp] theorem AState.stop_mod (a : AState) : (a.stop).mod = a.mod := rfl
@[simp] theorem AState.stop_link (a : AState) : (a.stop).link = a.link := rfl
@[simp] theorem AState.stop_pc (a : AState) : (a.stop).pc = a.pc + 1 := rfl
@[simp] theorem AState.stop_halted (a : AState) : (a.stop).halted = true := rfl
@[simp] theorem AState.stop_s (a : AState) : (a.stop).s = a.s := rfl
@[simp] theorem AState.stop_reg20 (a : AState) : (a.stop).reg20 = a.reg20 := rfl
@[simp] theorem AState.stop_reg22 (a : AState) : (a.stop).reg22 = a.reg22 := rfl
@[simp] theorem AState.stop_prog (a : AState) : (a.stop).prog = a.prog := rfl
@[simp] theorem AState.stop_history (a : AState) : (a.stop).history = a.history := rfl

@[simp] theorem AState.setReg20_x (y : Nat) (a : AState) : (a.setReg20 y).x = a.x := rfl
@[simp] theorem AState.setReg20_q1 (y : Nat) (a : AState) : (a.setReg20 y).q1 = a.q1 := rfl
@[simp] theorem AState.setReg20_q2 (y : Nat) (a : AState) : (a.setReg20 y).q2 = a.q2 := rfl
@[simp] theorem AState.setReg20_ovr (y : Nat) (a : AState) : (a.setReg20 y).ovr = a.ovr := rfl
@[simp] theorem AState.setReg20_mod (y : Nat) (a : AState) : (a.setReg20 y).mod = a.mod := rfl
@[simp] theorem AState.setReg20_link (y : Nat) (a : AState) : (a.setReg20 y).link = a.link := rfl
@[simp] theorem AState.setReg20_pc (y : Nat) (a : AState) : (a.setReg20 y).pc = a.pc := rfl
@[simp] theorem AState.setReg20_halted (y : Nat) (a : AState) : (a.setReg20 y).halted = a.halted := rfl
@[simp] theorem AState.setReg20_s (y : Nat) (a : AState) : (a.setReg20 y).s = a.s := rfl
@[simp] theorem AState.setReg20_reg20 (y : Nat) (a : AState) : (a.setReg20 y).reg20 = y := rfl
@[simp] theorem AState.setReg20_reg22 (y : Nat) (a : AState) : (a.setReg20 y).reg22 = a.reg22 := rfl
@[simp] theorem AState.setReg20_prog (y : Nat) (a : AState) : (a.setReg20 y).prog = a.prog := rfl
@[simp] theorem AState.setReg20_history (y : Nat) (a : AState) : (a.setReg20 y).history = a.history := rfl

@[simp] theorem AState.setReg22_x (y : Nat) (a : AState) : (a.setReg22 y).x = a.x := rfl
@[simp] theorem AState.setReg22_q1 (y : Nat) (a : AState) : (a.setReg22 y).q1 = a.q1 := rfl
@[simp] theorem AState.setReg22_q2 (y : Nat) (a : AState) : (a.setReg22 y).q2 = a.q2 := rfl
@[simp] theorem AState.setReg22_ovr (y : Nat) (a : AState) : (a.setReg22 y).ovr = a.ovr := rfl
@[simp] theorem AState.setReg22_mod (y : Nat) (a : AState) : (a.setReg22 y).mod = a.mod := rfl
@[simp] theorem AState.setReg22_link (y : Nat) (a : AState) : (a.setReg22 y).link = a.link := rfl
@[simp] theorem AState.setReg22_pc (y : Nat) (a : AState) : (a.setReg22 y).pc = a.pc := rfl
@[simp] theorem AState.setReg22_halted (y : Nat) (a : AState) : (a.setReg22 y).halted = a.halted := rfl
@[simp] theorem AState.setReg22_s (y : Nat) (a : AState) : (a.setReg22 y).s = a.s := rfl
@[simp] theorem AState.setReg22_reg20 (y : Nat) (a : AState) : (a.setReg22 y).reg20 = a.reg20 := rfl
@[simp] theorem AState.setReg22_reg22 (y : Nat) (a : AState) : (a.setReg22 y).reg22 = y := rfl
@[simp] theorem AState.setReg22_prog (y : Nat) (a : AState) : (a.setReg22 y).prog = a.prog := rfl
@[simp] theorem AState.setReg22_history (y : Nat) (a : AState) : (a.setReg22 y).history = a.history := rfl

end Sys2Proof.Machine
end

