-- ==== Sys2Proof/Laws/Ops.lean ====
section
/-! SUPPORT. For each shared operation, what it can do: one lemma that says once what a next state of it is, and what it keeps. -/

namespace Sys2Proof.Machine

/-! ### Results -/

@[simp] theorem Result.andThen_next {α β : Type} (x : α) (f : α → Result β) : Result.andThen (.next x) f = f x := rfl

@[simp] theorem Result.andThen_fault {α β : Type} (e : Fault) (f : α → Result β) :
    Result.andThen (.fault e : Result α) f = .fault e := rfl

@[simp] theorem Result.andThen_refused {α β : Type} (e : Refusal) (f : α → Result β) :
    Result.andThen (.refused e : Result α) f = .refused e := rfl

/-- A composite answers a next value exactly when both parts do. -/
theorem Result.andThen_eq_next {α β : Type} {r : Result α} {f : α → Result β} {y : β} :
    Result.andThen r f = .next y ↔ ∃ x, r = .next x ∧ f x = .next y := by
  cases r <;> simp [Result.andThen]

/-! ### The parts of the state -/

theorem State.onPoseidon_eq_next {f : Config → PState → Result PState} {s t : State} :
    s.onPoseidon f = .next t ↔ ∃ p, f s.cfg s.p = .next p ∧ t = s.withP p := by
  simp only [State.onPoseidon, Result.andThen_eq_next, Host.Outcome.next.injEq]
  exact ⟨fun ⟨y, h, e⟩ => ⟨y, h, e.symm⟩, fun ⟨y, h, e⟩ => ⟨y, h, e.symm⟩⟩

theorem State.onHermes_eq_next {f : Config → HState → Result HState} {s t : State} :
    s.onHermes f = .next t ↔ ∃ h, f s.cfg s.h = .next h ∧ t = s.withH h := by
  simp only [State.onHermes, Result.andThen_eq_next, Host.Outcome.next.injEq]
  exact ⟨fun ⟨y, h, e⟩ => ⟨y, h, e.symm⟩, fun ⟨y, h, e⟩ => ⟨y, h, e.symm⟩⟩

theorem State.onArgus_eq_next {f : Config → AState → Result AState} {s t : State} :
    s.onArgus f = .next t ↔ ∃ a, f s.cfg s.a = .next a ∧ t = s.withA a := by
  simp only [State.onArgus, Result.andThen_eq_next, Host.Outcome.next.injEq]
  exact ⟨fun ⟨y, h, e⟩ => ⟨y, h, e.symm⟩, fun ⟨y, h, e⟩ => ⟨y, h, e.symm⟩⟩

/-! ### Store accesses -/

theorem PState.readFps_eq_next {c : Config} {p : PState} {w : Read} :
    p.readFps c = .next w ↔ c.pW = 24 ∧ p.n.toNat < c.pFpsSize ∧ w = p.fpsWord := by
  unfold PState.readFps
  split_ifs with h1 h2
  · exact ⟨nofun, fun h => absurd h.1 h1⟩
  · exact ⟨nofun, fun h => absurd h.2.1 (by omega)⟩
  · exact ⟨fun h => ⟨not_not.1 h1, by omega, by injection h with h; exact h.symm⟩, fun h => by rw [h.2.2]⟩

theorem HState.readV_eq_next {c : Config} {h : HState} {which e : Nat} {w : Read} :
    h.readV c which e = .next w ↔ e < c.hStoreSize ∧ w = h.word c which e := by
  unfold HState.readV
  split_ifs with h1
  · exact ⟨nofun, fun h => absurd h.1 (by omega)⟩
  · exact ⟨fun h => ⟨by omega, by injection h with h; exact h.symm⟩, fun h => by rw [h.2]⟩

theorem HState.writeV_eq_next {c : Config} {h h' : HState} {e v : Nat} :
    h.writeV c e v = .next h' ↔ e < c.hStoreSize ∧ h' = h.putV e v := by
  unfold HState.writeV
  split_ifs with h1
  · exact ⟨nofun, fun h => absurd h.1 (by omega)⟩
  · exact ⟨fun h => ⟨by omega, by injection h with h; exact h.symm⟩, fun h => by rw [h.2]⟩

theorem AState.nval_eq_next {c : Config} {a : AState} {x : BitVec 3} {ne : Addr13} {w : Read} :
    a.nval c x ne = .next w ↔
      ¬(isLong x = true ∧ ne = 0) ∧ ne.toNat < c.aStoreSize ∧ w = a.storeOperand c x ne := by
  unfold AState.nval
  split_ifs with h1 h2
  · exact ⟨nofun, fun h => absurd h1 h.1⟩
  · exact ⟨nofun, fun h => absurd h.2.1 (by omega)⟩
  · exact ⟨fun h => ⟨h1, by omega, by injection h with h; exact h.symm⟩, fun h => by rw [h.2.2]⟩

theorem AState.setn_eq_next {c : Config} {a a' : AState} {x : BitVec 3} {ne : Addr13} {v : Nat} :
    a.setn c x ne v = .next a' ↔
      ¬(isLong x = true ∧ ne = 0) ∧ ne.toNat < c.aStoreSize ∧ a' = a.putOperand c x ne v := by
  unfold AState.setn
  split_ifs with h1 h2
  · exact ⟨nofun, fun h => absurd h1 h.1⟩
  · exact ⟨nofun, fun h => absurd h.2.1 (by omega)⟩
  · exact ⟨fun h => ⟨h1, by omega, by injection h with h; exact h.symm⟩, fun h => by rw [h.2.2]⟩

theorem sumH_eq_next {c : Config} {u v r : Nat} :
    sumH c u v = .next r ↔ (sumFits c u v = true ∨ c.hOverflow = .wrap) ∧ r = sumWord c u v := by
  unfold sumH
  split_ifs with h1
  · exact ⟨fun h => ⟨.inl h1, by injection h with h; exact h.symm⟩, fun h => by rw [h.2]⟩
  · cases h2 : c.hOverflow
    · exact ⟨nofun, fun h => absurd h.1 (by simp [h1])⟩
    · exact ⟨fun h => ⟨.inr rfl, by injection h with h; exact h.symm⟩, fun h => by rw [h.2]⟩

theorem HState.third_eq_next {c : Config} {h : HState} {t : HThird} {f : Field5} {w : Read} :
    h.third c t f = .next w ↔
      (t = .store ∧ f.toNat < c.hStoreSize ∧ w = h.word c 2 f.toNat) ∨
      (t = .literal ∧ w = ⟨extend5 c.hCExt c.hW f, []⟩) := by
  cases t
  · simp [HState.third, HState.readV_eq_next]
  · simp [HState.third, eq_comm]

theorem HState.sumOf_eq_next {c : Config} {u v : Result Read} {r : Read} :
    HState.sumOf c u v = .next r ↔
      ∃ x y, u = .next x ∧ v = .next y ∧ (sumFits c x.val y.val = true ∨ c.hOverflow = .wrap) ∧
        r = ⟨sumWord c x.val y.val, x.events ++ y.events⟩ := by
  simp only [HState.sumOf, Result.andThen_eq_next, sumH_eq_next]
  constructor
  · rintro ⟨x, hx, y, hy, z, ⟨hz, rfl⟩, h⟩
    cases h
    exact ⟨x, y, hx, hy, hz, rfl⟩
  · rintro ⟨x, y, hx, hy, hz, rfl⟩
    exact ⟨x, hx, y, hy, _, ⟨hz, rfl⟩, rfl⟩

/-! ### Words read and registers written fit their widths -/

theorem HState.word_lt {c : Config} {h : HState} (hw : h.wf c) (which e : Nat) : (h.word c which e).val < 2 ^ c.hW := by
  unfold HState.word
  split
  · next hr => exact Memory.read_lt hw.1 hr
  · exact Nat.mod_lt _ (Nat.two_pow_pos _)

theorem AState.short_lt {c : Config} {a : AState} (hw : a.wf c) (which e : Nat) : (a.short c which e).val < 2 ^ c.aW := by
  unfold AState.short
  split
  · next hr => exact Memory.read_lt hw.2.2.2.1 hr
  · exact Nat.mod_lt _ (Nat.two_pow_pos _)

theorem sumWord_lt (c : Config) (u v : Nat) : sumWord c u v < 2 ^ c.hW := trunc_lt _ _

theorem accWidth_of_short {c : Config} {x : BitVec 3} (h : x.toNat < 6) : accWidth c x = c.aW := by
  simp [accWidth, isLong]; omega

theorem AState.qval_lt {c : Config} {a : AState} (hw : a.wf c) : a.qval c < 2 ^ (2 * c.aW) :=
  pairValue_lt _ hw.2.1 hw.2.2.1

theorem AState.pval_lt {c : Config} {a : AState} (hw : a.wf c) : a.pval c < 2 ^ (2 * c.aW) :=
  pairValue_lt _ (hw.1 4) (hw.1 5)

theorem AState.pqval_lt {c : Config} {a : AState} (hw : a.wf c) : a.pqval c < 2 ^ (4 * c.aW) := by
  have h := pairValue_lt c.aLongOrder (AState.pval_lt hw) (AState.qval_lt hw)
  rwa [show 2 * (2 * c.aW) = 4 * c.aW by ring] at h

theorem AState.xval_lt {c : Config} {a : AState} (hw : a.wf c) (x : BitVec 3) : a.xval c x < 2 ^ accWidth c x := by
  unfold AState.xval
  split
  · next hx =>
    rw [accWidth_of_short hx]
    exact hw.1 ⟨x.toNat, hx⟩
  · next hx =>
    have hl : accWidth c x = 2 * c.aW := by simp [accWidth, isLong]; omega
    rw [hl]
    split
    · exact AState.qval_lt hw
    · exact AState.pval_lt hw

theorem AState.storeOperand_lt {c : Config} {a : AState} (hw : a.wf c) (x : BitVec 3) (ne : Addr13) :
    (a.storeOperand c x ne).val < 2 ^ accWidth c x := by
  unfold AState.storeOperand accWidth
  split
  · exact pairValue_lt _ (AState.short_lt hw _ _) (AState.short_lt hw _ _)
  · exact AState.short_lt hw _ _

theorem constantOperand_lt (c : Config) (x : BitVec 3) (ne : Addr13) : constantOperand c x ne < 2 ^ accWidth c x :=
  extend13_lt _ _ _

theorem AState.setp_wf {c : Config} {a : AState} (hw : a.wf c) {v : Nat} (hv : v < 2 ^ (2 * c.aW)) : (a.setp c v).wf c := by
  obtain ⟨hx, h⟩ := hw
  refine ⟨fun k => ?_, h⟩
  have h1 := pairFirst_lt c.aLongOrder hv
  have h2 := pairSecond_lt c.aLongOrder hv
  have hk := hx k
  simp only [AState.setp_x, Fin.getElem_fin] at hk ⊢
  rw [Vector.getElem_set, Vector.getElem_set]
  split
  · exact h2
  · split
    · exact h1
    · exact hk

theorem AState.setq_wf {c : Config} {a : AState} (hw : a.wf c) {v : Nat} (hv : v < 2 ^ (2 * c.aW)) : (a.setq c v).wf c := by
  obtain ⟨hx, _, _, h⟩ := hw
  exact ⟨hx, pairFirst_lt _ hv, pairSecond_lt _ hv, h⟩

theorem AState.setpq_wf {c : Config} {a : AState} (hw : a.wf c) {v : Nat} (hv : v < 2 ^ (4 * c.aW)) : (a.setpq c v).wf c := by
  rw [show 4 * c.aW = 2 * (2 * c.aW) by ring] at hv
  exact AState.setq_wf (AState.setp_wf hw (pairFirst_lt _ hv)) (pairSecond_lt _ hv)

theorem AState.setx_wf {c : Config} {a : AState} (hw : a.wf c) (x : BitVec 3) {v : Nat} (hv : v < 2 ^ accWidth c x) :
    (a.setx c x v).wf c := by
  unfold AState.setx
  split
  · next hx =>
    rw [accWidth_of_short hx] at hv
    refine ⟨fun k => ?_, hw.2⟩
    have hk := hw.1 k
    simp only [Fin.getElem_fin] at hk ⊢
    rw [Vector.getElem_set]
    split
    · exact hv
    · exact hk
  · next hx =>
    have hl : accWidth c x = 2 * c.aW := by simp [accWidth, isLong]; omega
    rw [hl] at hv
    split
    · exact AState.setq_wf hw hv
    · exact AState.setp_wf hw hv

theorem AState.setProduct_wf {c : Config} {a : AState} (hw : a.wf c) (x : BitVec 3) {v : Nat}
    (hv : v < 2 ^ productWidth c x) : (a.setProduct c x v).wf c := by
  unfold AState.setProduct
  unfold productWidth at hv
  split at hv
  · next hx => rw [if_pos hx]; exact AState.setpq_wf hw hv
  · next hx => rw [if_neg hx]; exact AState.setp_wf hw hv

theorem AState.putS_wf {c : Config} {a : AState} (hw : a.wf c) {e v : Nat} (he : e < c.aStoreSize) (hv : v < 2 ^ c.aW) :
    (a.putS e v).wf c := by
  obtain ⟨h1, h2, h3, h4, h5⟩ := hw
  exact ⟨h1, h2, h3, Memory.wf_write h4 he hv, h5⟩

theorem AState.putOperand_wf {c : Config} {a : AState} (hw : a.wf c) (x : BitVec 3) {ne : Addr13} {v : Nat}
    (he : ne.toNat < c.aStoreSize) (hv : v < 2 ^ accWidth c x) : (a.putOperand c x ne v).wf c := by
  unfold AState.putOperand
  unfold accWidth at hv
  split at hv
  · next hx =>
    rw [if_pos hx]
    exact AState.putS_wf (AState.putS_wf hw (by omega) (pairFirst_lt _ hv)) he (pairSecond_lt _ hv)
  · next hx => rw [if_neg hx]; exact AState.putS_wf hw he hv

theorem HState.putV_wf {c : Config} {h : HState} (hw : h.wf c) {e v : Nat} (he : e < c.hStoreSize) (hv : v < 2 ^ c.hW) :
    (h.putV e v).wf c := ⟨Memory.wf_write hw.1 he hv, hw.2⟩

theorem HState.setN1_wf {c : Config} {h : HState} (hw : h.wf c) {v : Nat} (hv : v < 2 ^ c.hAW) : (h.setN1 v).wf c :=
  ⟨hw.1, hv, hw.2.2⟩

theorem HState.jumpTo_wf {c : Config} {h : HState} (hw : h.wf c) {v : Nat} (hv : v < 2 ^ c.hAW) : (h.jumpTo v).wf c :=
  ⟨hw.1, hw.2.1, hv, hw.2.2.2⟩

theorem HState.record_wf {c : Config} {h : HState} (hw : h.wf c) (es : List Event) : (h.record es).wf c := hw

theorem HState.advance_wf {c : Config} {h : HState} (hw : h.wf c) : (h.advance c).wf c :=
  HState.jumpTo_wf hw (trunc_lt _ _)

theorem HState.stepN1_wf {c : Config} {h : HState} (hw : h.wf c) (k : N1Step) : (h.stepN1 c k).wf c := by
  cases k
  · exact hw
  · exact HState.setN1_wf hw (trunc_lt _ _)
  · exact HState.setN1_wf hw (trunc_lt _ _)

theorem HState.relativeTarget_lt (c : Config) (h : HState) (f : Field5) : h.relativeTarget c f < 2 ^ c.hAW := by
  unfold HState.relativeTarget
  split <;> exact trunc_lt _ _

/-- A word below 2^H_AW is its own address, also where H_AW exceeds H_W (log 24). -/
theorem toHermesAddress_of_lt {c : Config} {v : Nat} (h : v < 2 ^ c.hAW) : toHermesAddress c v = v := Nat.mod_eq_of_lt h

theorem toHermesAddress_lt (c : Config) (v : Nat) : toHermesAddress c v < 2 ^ c.hAW := Nat.mod_lt _ (Nat.two_pow_pos _)

theorem PState.writeR_wf {c : Config} {p : PState} (hw : p.wf c) (k : Field5) {v : Nat} (hv : v < 2 ^ c.pW) :
    (p.writeR k v).wf c := by
  refine ⟨fun j => ?_, hw.2⟩
  have hj := hw.1 j
  simp only [PState.writeR_r, Fin.getElem_fin] at hj ⊢
  rw [Vector.getElem_set]
  split
  · exact hv
  · exact hj

theorem PState.readR_lt {c : Config} {p : PState} (hw : p.wf c) (k : Field5) : p.readR k < 2 ^ c.pW := hw.1 ⟨k.toNat, k.isLt⟩

@[simp] theorem PState.readR_writeR_same (p : PState) (k : Field5) (v : Nat) : (p.writeR k v).readR k = v := by
  simp [PState.readR, PState.writeR]

theorem PState.readR_writeR_other (p : PState) {k j : Field5} (v : Nat) (h : j ≠ k) : (p.writeR k v).readR j = p.readR j := by
  have : k.toNat ≠ j.toNat := fun e => h (BitVec.eq_of_toNat_eq e.symm)
  simp [PState.readR, PState.writeR, this]

/-! ### A Poseidon Group 0 order -/

/-- A next state of a Group 0 order: Inner mode, the checks of R143 passed, both sources read, and steps 4 to 9 of R140. -/
theorem PState.obey_eq_next {v : PVariant} {collate : Bool} {op : Option PFunction} {fa fb fc : Field5} {c : Config}
    {p q : PState} :
    PState.obey v collate op fa fb fc c p = .next q ↔
      p.mode = .inner ∧ addressCheck c v collate fa fb fc = none ∧
        ∃ o, p.sources c v fb fc = .next o ∧ q = PState.finish v fb fc p (p.operate c v op fa o) := by
  unfold PState.obey
  cases hm : p.mode
  · cases ha : addressCheck c v collate fa fb fc
    · simp only [reduceCtorEq, if_false, Result.andThen_eq_next, Host.Outcome.next.injEq, true_and]
      exact ⟨fun ⟨o, h, e⟩ => ⟨o, h, e.symm⟩, fun ⟨o, h, e⟩ => ⟨o, h, e.symm⟩⟩
    · simp
  · simp

theorem poseidonOrder_eq_next {v : PVariant} {f : PFunction} {a b c : Field5} {s t : State} :
    poseidonOrder v f a b c s = .next t ↔
      s.p.mode = .inner ∧ addressCheck s.cfg v f.collates a b c = none ∧
        ∃ o, s.p.sources s.cfg v b c = .next o ∧
          t = s.withP (PState.finish v b c s.p (s.p.operate s.cfg v (some f) a o)) := by
  simp only [poseidonOrder, State.onPoseidon_eq_next, PState.obey_eq_next]
  constructor
  · rintro ⟨p, ⟨h1, h2, o, h3, rfl⟩, rfl⟩
    exact ⟨h1, h2, o, h3, rfl⟩
  · rintro ⟨h1, h2, o, h3, rfl⟩
    exact ⟨_, ⟨h1, h2, o, h3, rfl⟩, rfl⟩

/-- A group of refused Poseidon orders never answers a next state. -/
theorem poseidonRefused_ne_next (e : Refusal) (s t : State) : poseidonRefused e s ≠ .next t := by
  unfold poseidonRefused
  split <;> simp

@[simp] theorem PState.finish_r (v : PVariant) (fb fc : Field5) (b p : PState) : (PState.finish v fb fc b p).r = p.r := by
  unfold PState.finish; split <;> split <;> rfl

@[simp] theorem PState.finish_pc (v : PVariant) (fb fc : Field5) (b p : PState) :
    (PState.finish v fb fc b p).pc = b.successor v fb fc := rfl

@[simp] theorem PState.finish_mode (v : PVariant) (fb fc : Field5) (b p : PState) :
    (PState.finish v fb fc b p).mode = if v = .returnOuter then .outer else b.mode := rfl

@[simp] theorem PState.finish_n (v : PVariant) (fb fc : Field5) (b p : PState) :
    (PState.finish v fb fc b p).n = if v.countsN then p.n + (if p.q10 then 2 else 1) else p.n := by
  unfold PState.finish; split <;> split <;> rfl

@[simp] theorem PState.finish_lambda (v : PVariant) (fb fc : Field5) (b p : PState) :
    (PState.finish v fb fc b p).lambda = if v.countsLambda then p.lambda + 1 else p.lambda := by
  unfold PState.finish; split <;> split <;> rfl

/-- Steps 5 to 9 touch only N, lambda, pc and the mode. -/
theorem PState.finish_frame (v : PVariant) (fb fc : Field5) (b p : PState) :
    (PState.finish v fb fc b p).l = p.l ∧ (PState.finish v fb fc b p).mu = p.mu ∧
    (PState.finish v fb fc b p).alpha = p.alpha ∧ (PState.finish v fb fc b p).kappa = p.kappa ∧
    (PState.finish v fb fc b p).crNeg = p.crNeg ∧ (PState.finish v fb fc b p).crZero = p.crZero ∧
    (PState.finish v fb fc b p).ovr = p.ovr ∧ (PState.finish v fb fc b p).q = p.q ∧
    (PState.finish v fb fc b p).punch = p.punch ∧ (PState.finish v fb fc b p).fps = p.fps ∧
    (PState.finish v fb fc b p).ds = p.ds ∧ (PState.finish v fb fc b p).history = p.history := by
  unfold PState.finish
  split <;> split <;> exact ⟨rfl, rfl, rfl, rfl, rfl, rfl, rfl, rfl, rfl, rfl, rfl, rfl⟩

/-- Step 4 leaves N, L, lambda, mu, alpha, kappa, the Q stats, pc, the mode and both stores alone. -/
theorem PState.operate_frame (c : Config) (v : PVariant) (op : Option PFunction) (fa : Field5) (o : PSources) (p : PState) :
    (p.operate c v op fa o).n = p.n ∧ (p.operate c v op fa o).l = p.l ∧ (p.operate c v op fa o).lambda = p.lambda ∧
    (p.operate c v op fa o).mu = p.mu ∧ (p.operate c v op fa o).alpha = p.alpha ∧ (p.operate c v op fa o).kappa = p.kappa ∧
    (p.operate c v op fa o).q = p.q ∧ (p.operate c v op fa o).pc = p.pc ∧ (p.operate c v op fa o).mode = p.mode ∧
    (p.operate c v op fa o).fps = p.fps ∧ (p.operate c v op fa o).ds = p.ds := by
  cases op <;> simp [PState.operate]

/-- Both sources of a well-formed state fit P_W bits, also where they come from P.FPS or a device. -/
theorem PState.sources_lt {c : Config} {p : PState} (hc : c.wf) (hw : p.wf c) {v : PVariant} {fb fc : Field5} {o : PSources}
    (h : p.sources c v fb fc = .next o) : o.b < 2 ^ c.pW ∧ o.c < 2 ^ c.pW := by
  have hR := PState.readR_lt hw
  have h5 : 5 ≤ c.pW := hc.1
  have htape : ∀ ch : BitVec 5, tapeWord c ch < 2 ^ c.pW := by
    intro ch
    have hch : ch.toNat < 2 ^ 5 := ch.isLt
    unfold tapeWord
    split
    · exact lt_of_lt_of_le hch (Nat.pow_le_pow_right (by norm_num) h5)
    · calc ch.toNat * 2 ^ (c.pW - 5) < 2 ^ 5 * 2 ^ (c.pW - 5) :=
            Nat.mul_lt_mul_of_pos_right hch (Nat.two_pow_pos _)
        _ = 2 ^ c.pW := by rw [← pow_add]; congr 1; omega
  have hsw : p.handswitches c < 2 ^ c.pW := Nat.mod_lt _ (Nat.two_pow_pos _)
  unfold PState.sources at h
  split at h
  · split at h
    · simp only [Result.andThen_eq_next, PState.readFps_eq_next] at h
      obtain ⟨w, ⟨h24, -, rfl⟩, h⟩ := h
      have hf : p.fpsWord.val < 2 ^ c.pW := by
        rw [h24]
        unfold PState.fpsWord
        split <;> exact BitVec.isLt _
      cases h
      exact ⟨by dsimp only; split <;> [exact hf; exact hR _], by dsimp only; split <;> [exact hf; exact hR _]⟩
    · cases h; exact ⟨hR _, hR _⟩
  · cases h
    exact ⟨by dsimp only; split <;> [exact htape _; exact hR _], by dsimp only; split <;> [exact hsw; exact hR _]⟩
  · cases h; exact ⟨hR _, hR _⟩

end Sys2Proof.Machine
end

