-- ==== Sys2Proof/Laws/PerInstr.lean ====
section
/-! SUPPORT. For every instruction: the word that encodes it has the fixed bits of its row of spec/opcode_table.json (`mask` and `match`
of the row, copied from the table and not computed from the encoder). -/

namespace Sys2Proof.Laws.OpcodeBits

/-- `mask` and `match` of the instruction's row of spec/opcode_table.json. -/
def row : Instr → Order × Order
  | .p000 _ _ _ => (0xFF8000#24, 0x000000#24)
  | .p001 _ _ _ => (0xFF8000#24, 0x008000#24)
  | .p002 _ _ _ => (0xFF8000#24, 0x010000#24)
  | .p003 _ _ _ => (0xFF8000#24, 0x018000#24)
  | .p004 _ _ _ => (0xFF8000#24, 0x020000#24)
  | .p005 _ _ _ => (0xFF8000#24, 0x028000#24)
  | .p006 _ _ _ => (0xFF8000#24, 0x030000#24)
  | .p007 _ _ _ => (0xFF8000#24, 0x038000#24)
  | .p010 _ _ _ => (0xFF8000#24, 0x040000#24)
  | .p011 _ _ _ => (0xFF8000#24, 0x048000#24)
  | .p012 _ _ _ => (0xFF8000#24, 0x050000#24)
  | .p013 _ _ _ => (0xFF8000#24, 0x058000#24)
  | .p014 _ _ _ => (0xFF8000#24, 0x060000#24)
  | .p015 _ _ _ => (0xFF8000#24, 0x068000#24)
  | .p016 _ _ _ => (0xFF8000#24, 0x070000#24)
  | .p017 _ _ _ => (0xFF8000#24, 0x078000#24)
  | .p020 _ _ _ => (0xFF8000#24, 0x080000#24)
  | .p021 _ _ _ => (0xFF8000#24, 0x088000#24)
  | .p022 _ _ _ => (0xFF8000#24, 0x090000#24)
  | .p023 _ _ _ => (0xFF8000#24, 0x098000#24)
  | .p024 _ _ _ => (0xFF8000#24, 0x0A0000#24)
  | .p025 _ _ _ => (0xFF8000#24, 0x0A8000#24)
  | .p026 _ _ _ => (0xFF8000#24, 0x0B0000#24)
  | .p027 _ _ _ => (0xFF8000#24, 0x0B8000#24)
  | .p030 _ _ _ => (0xFF8000#24, 0x0C0000#24)
  | .p031 _ _ _ => (0xFF8000#24, 0x0C8000#24)
  | .p032 _ _ _ => (0xFF8000#24, 0x0D0000#24)
  | .p033 _ _ _ => (0xFF8000#24, 0x0D8000#24)
  | .p034 _ _ _ => (0xFF8000#24, 0x0E0000#24)
  | .p035 _ _ _ => (0xFF8000#24, 0x0E8000#24)
  | .p036 _ _ _ => (0xFF8000#24, 0x0F0000#24)
  | .p037 _ _ _ => (0xFF8000#24, 0x0F8000#24)
  | .p040 _ _ _ => (0xFF8000#24, 0x100000#24)
  | .p041 _ _ _ => (0xFF8000#24, 0x108000#24)
  | .p042 _ _ _ => (0xFF8000#24, 0x110000#24)
  | .p043 _ _ _ => (0xFF8000#24, 0x118000#24)
  | .p044 _ _ _ => (0xFF8000#24, 0x120000#24)
  | .p045 _ _ _ => (0xFF8000#24, 0x128000#24)
  | .p046 _ _ _ => (0xFF8000#24, 0x130000#24)
  | .p047 _ _ _ => (0xFF8000#24, 0x138000#24)
  | .p050 _ _ _ => (0xFF8000#24, 0x140000#24)
  | .p051 _ _ _ => (0xFF8000#24, 0x148000#24)
  | .p052 _ _ _ => (0xFF8000#24, 0x150000#24)
  | .p053 _ _ _ => (0xFF8000#24, 0x158000#24)
  | .p054 _ _ _ => (0xFF8000#24, 0x160000#24)
  | .p055 _ _ _ => (0xFF8000#24, 0x168000#24)
  | .p056 _ _ _ => (0xFF8000#24, 0x170000#24)
  | .p057 _ _ _ => (0xFF8000#24, 0x178000#24)
  | .p060 _ _ _ => (0xFF8000#24, 0x180000#24)
  | .p061 _ _ _ => (0xFF8000#24, 0x188000#24)
  | .p062 _ _ _ => (0xFF8000#24, 0x190000#24)
  | .p063 _ _ _ => (0xFF8000#24, 0x198000#24)
  | .p064 _ _ _ => (0xFF8000#24, 0x1A0000#24)
  | .p065 _ _ _ => (0xFF8000#24, 0x1A8000#24)
  | .p066 _ _ _ => (0xFF8000#24, 0x1B0000#24)
  | .p067 _ _ _ => (0xFF8000#24, 0x1B8000#24)
  | .p070 _ _ _ => (0xFF8000#24, 0x1C0000#24)
  | .p071 _ _ _ => (0xFF8000#24, 0x1C8000#24)
  | .p072 _ _ _ => (0xFF8000#24, 0x1D0000#24)
  | .p073 _ _ _ => (0xFF8000#24, 0x1D8000#24)
  | .p074 _ _ _ => (0xFF8000#24, 0x1E0000#24)
  | .p075 _ _ _ => (0xFF8000#24, 0x1E8000#24)
  | .p076 _ _ _ => (0xFF8000#24, 0x1F0000#24)
  | .p077 _ _ _ => (0xFF8000#24, 0x1F8000#24)
  | .p1xx _ => (0xE00000#24, 0x200000#24)
  | .p2xx _ => (0xE00000#24, 0x400000#24)
  | .p3xx _ => (0xE00000#24, 0x600000#24)
  | .p4xx _ => (0xE00000#24, 0x800000#24)
  | .p5xx _ => (0xE00000#24, 0xA00000#24)
  | .p6xx _ => (0xE00000#24, 0xC00000#24)
  | .p7xx _ => (0xE00000#24, 0xE00000#24)
  | .h0_00_0 _ _ _ => (0xFF8000#24, 0x000000#24)
  | .h0_01_0 _ _ _ => (0xFF8000#24, 0x040000#24)
  | .h0_00_1 _ _ _ => (0xFF8000#24, 0x008000#24)
  | .h0_01_1 _ _ _ => (0xFF8000#24, 0x048000#24)
  | .h0_00_2 _ _ _ => (0xFF8000#24, 0x010000#24)
  | .h0_01_2 _ _ _ => (0xFF8000#24, 0x050000#24)
  | .h0_00_3 _ _ _ => (0xFF8000#24, 0x018000#24)
  | .h0_01_3 _ _ _ => (0xFF8000#24, 0x058000#24)
  | .h0_00_4 _ _ _ => (0xFF8000#24, 0x020000#24)
  | .h0_01_4 _ _ _ => (0xFF8000#24, 0x060000#24)
  | .h0_00_5 _ _ _ => (0xFF8000#24, 0x028000#24)
  | .h0_01_5 _ _ _ => (0xFF8000#24, 0x068000#24)
  | .h0_00_6 _ _ _ => (0xFF8000#24, 0x030000#24)
  | .h0_01_6 _ _ _ => (0xFF8000#24, 0x070000#24)
  | .h0_00_7 _ _ _ => (0xFF8000#24, 0x038000#24)
  | .h0_01_7 _ _ _ => (0xFF8000#24, 0x078000#24)
  | .h0_10_0 _ _ _ => (0xFF8000#24, 0x080000#24)
  | .h0_11_0 _ _ _ => (0xFF8000#24, 0x0C0000#24)
  | .h0_10_1 _ _ _ => (0xFF8000#24, 0x088000#24)
  | .h0_11_1 _ _ _ => (0xFF8000#24, 0x0C8000#24)
  | .h0_10_2 _ _ _ => (0xFF8000#24, 0x090000#24)
  | .h0_11_2 _ _ _ => (0xFF8000#24, 0x0D0000#24)
  | .h0_10_3 _ _ _ => (0xFF8000#24, 0x098000#24)
  | .h0_11_3 _ _ _ => (0xFF8000#24, 0x0D8000#24)
  | .h0_10_4 _ _ _ => (0xFF8000#24, 0x0A0000#24)
  | .h0_11_4 _ _ _ => (0xFF8000#24, 0x0E0000#24)
  | .h0_10_5 _ _ _ => (0xFF8000#24, 0x0A8000#24)
  | .h0_11_5 _ _ _ => (0xFF8000#24, 0x0E8000#24)
  | .h0_10_6 _ _ _ => (0xFF8000#24, 0x0B0000#24)
  | .h0_11_6 _ _ _ => (0xFF8000#24, 0x0F0000#24)
  | .h0_10_7 _ _ _ => (0xFF8000#24, 0x0B8000#24)
  | .h0_11_7 _ _ _ => (0xFF8000#24, 0x0F8000#24)
  | .h0_2x _ => (0xF80000#24, 0x100000#24)
  | .h0_3x _ => (0xF80000#24, 0x180000#24)
  | .h1xx _ => (0xE00000#24, 0x200000#24)
  | .h2xx _ => (0xE00000#24, 0x400000#24)
  | .h3xx _ => (0xE00000#24, 0x600000#24)
  | .h4xx _ => (0xE00000#24, 0x800000#24)
  | .h5xx _ => (0xE00000#24, 0xA00000#24)
  | .h6xx _ => (0xE00000#24, 0xC00000#24)
  | .h7xx _ => (0xE00000#24, 0xE00000#24)
  | .a00 _ _ _ => (0x0000FC#24, 0x000000#24)
  | .a01 _ _ _ => (0x0000FC#24, 0x000004#24)
  | .a02 _ _ _ => (0x0000FC#24, 0x000008#24)
  | .a03 _ _ _ => (0x0000FC#24, 0x00000C#24)
  | .a04 _ _ _ => (0x0000FC#24, 0x000010#24)
  | .a05 _ _ _ => (0x0000FC#24, 0x000014#24)
  | .a06 _ _ _ => (0x0000FC#24, 0x000018#24)
  | .a07 _ _ _ => (0x0000FC#24, 0x00001C#24)
  | .a10 _ _ _ => (0x0000FC#24, 0x000020#24)
  | .a11 _ _ _ => (0x0000FC#24, 0x000024#24)
  | .a12 _ _ _ => (0x0000FC#24, 0x000028#24)
  | .a13 _ _ _ => (0x0000FC#24, 0x00002C#24)
  | .a14 _ _ _ => (0x0000FC#24, 0x000030#24)
  | .a15 _ _ _ => (0x0000FC#24, 0x000034#24)
  | .a16 _ _ _ => (0x0000FC#24, 0x000038#24)
  | .a17 _ _ _ => (0x0000FC#24, 0x00003C#24)
  | .a20 _ _ _ => (0x0000FC#24, 0x000040#24)
  | .a21 _ _ _ => (0x0000FC#24, 0x000044#24)
  | .a22 _ _ _ => (0x0000FC#24, 0x000048#24)
  | .a23 _ _ _ => (0x0000FC#24, 0x00004C#24)
  | .a24 _ _ _ => (0x0000FC#24, 0x000050#24)
  | .a25 _ _ _ => (0x0000FC#24, 0x000054#24)
  | .a26 _ _ _ => (0x0000FC#24, 0x000058#24)
  | .a27 _ _ _ => (0x0000FC#24, 0x00005C#24)
  | .a30 _ _ _ => (0x0000FC#24, 0x000060#24)
  | .a31 _ _ _ => (0x0000FC#24, 0x000064#24)
  | .a32 _ _ _ => (0x0000FC#24, 0x000068#24)
  | .a33 _ _ _ => (0x0000FC#24, 0x00006C#24)
  | .a34 _ _ _ => (0x0000FC#24, 0x000070#24)
  | .a35 _ _ _ => (0x0000FC#24, 0x000074#24)
  | .a36 _ _ _ => (0x0000FC#24, 0x000078#24)
  | .a37 _ _ _ => (0x0000FC#24, 0x00007C#24)
  | .a40 _ _ _ => (0x0000FC#24, 0x000080#24)
  | .a41 _ _ _ => (0x0000FC#24, 0x000084#24)
  | .a42 _ _ _ => (0x0000FC#24, 0x000088#24)
  | .a43 _ _ _ => (0x0000FC#24, 0x00008C#24)
  | .a44 _ _ _ => (0x0000FC#24, 0x000090#24)
  | .a45 _ _ _ => (0x0000FC#24, 0x000094#24)
  | .a46 _ _ _ => (0x0000FC#24, 0x000098#24)
  | .a47 _ _ _ => (0x0000FC#24, 0x00009C#24)
  | .a50 _ _ _ => (0x0000FC#24, 0x0000A0#24)
  | .a51 _ _ _ => (0x0000FC#24, 0x0000A4#24)
  | .a52 _ _ _ => (0x0000FC#24, 0x0000A8#24)
  | .a53 _ _ _ => (0x0000FC#24, 0x0000AC#24)
  | .a54 _ _ _ => (0x0000FC#24, 0x0000B0#24)
  | .a55 _ _ _ => (0x0000FC#24, 0x0000B4#24)
  | .a56 _ _ _ => (0x0000FC#24, 0x0000B8#24)
  | .a57 _ _ _ => (0x0000FC#24, 0x0000BC#24)
  | .a60 _ _ _ => (0x0000FC#24, 0x0000C0#24)
  | .a61 _ _ _ => (0x0000FC#24, 0x0000C4#24)
  | .a62 _ _ _ => (0x0000FC#24, 0x0000C8#24)
  | .a63 _ _ _ => (0x0000FC#24, 0x0000CC#24)
  | .a64 _ _ _ => (0x0000FC#24, 0x0000D0#24)
  | .a65 _ _ _ => (0x0000FC#24, 0x0000D4#24)
  | .a66 _ _ _ => (0x0000FC#24, 0x0000D8#24)
  | .a67 _ _ _ => (0x0000FC#24, 0x0000DC#24)
  | .a70 _ _ _ => (0x0000FC#24, 0x0000E0#24)
  | .a71 _ _ _ => (0x0000FC#24, 0x0000E4#24)
  | .a72 _ _ _ => (0x0000FC#24, 0x0000E8#24)
  | .a73 _ _ _ => (0x0000FC#24, 0x0000EC#24)
  | .a74 _ _ _ => (0x0000FC#24, 0x0000F0#24)
  | .a75 _ _ _ => (0x0000FC#24, 0x0000F4#24)
  | .a76 _ _ _ => (0x0000FC#24, 0x0000F8#24)
  | .a77 _ _ _ => (0x0000FC#24, 0x0000FC#24)

/-- The fixed bits of an instruction's word are those of its row. -/
def Statement (i : Instr) : Prop := encode i &&& (row i).1 = (row i).2

theorem packABC_and (f : BitVec 9) (a b c : Field5) : packABC f a b c &&& 0xFF8000#24 = f ++ 0#15 := by
  refine BitVec.eq_of_getLsbD_eq fun i hi => ?_
  simp only [packABC, BitVec.getLsbD_and, BitVec.getLsbD_append]
  interval_cases i <;> simp

theorem packRest21_and (u : BitVec 3) (rest : BitVec 21) : packRest21 u rest &&& 0xE00000#24 = u ++ 0#21 := by
  refine BitVec.eq_of_getLsbD_eq fun i hi => ?_
  simp only [packRest21, BitVec.getLsbD_and, BitVec.getLsbD_append]
  interval_cases i <;> simp

theorem packRest19_and (fi : BitVec 5) (rest : BitVec 19) : packRest19 fi rest &&& 0xF80000#24 = fi ++ 0#19 := by
  refine BitVec.eq_of_getLsbD_eq fun i hi => ?_
  simp only [packRest19, BitVec.getLsbD_and, BitVec.getLsbD_append]
  interval_cases i <;> simp

theorem packNXFM_and (n : Addr13) (x : BitVec 3) (f : BitVec 6) (m : BitVec 2) :
    packNXFM n x f m &&& 0x0000FC#24 = 0#16 ++ f ++ 0#2 := by
  refine BitVec.eq_of_getLsbD_eq fun i hi => ?_
  simp only [packNXFM, BitVec.getLsbD_and, BitVec.getLsbD_append]
  interval_cases i <;> simp

theorem p000 (a b c : Field5) : Statement (.p000 a b c) := (packABC_and _ a b c).trans rfl

theorem p001 (a b c : Field5) : Statement (.p001 a b c) := (packABC_and _ a b c).trans rfl

theorem p002 (a b c : Field5) : Statement (.p002 a b c) := (packABC_and _ a b c).trans rfl

theorem p003 (a b c : Field5) : Statement (.p003 a b c) := (packABC_and _ a b c).trans rfl

theorem p004 (a b c : Field5) : Statement (.p004 a b c) := (packABC_and _ a b c).trans rfl

theorem p005 (a b c : Field5) : Statement (.p005 a b c) := (packABC_and _ a b c).trans rfl

theorem p006 (a b c : Field5) : Statement (.p006 a b c) := (packABC_and _ a b c).trans rfl

theorem p007 (a b c : Field5) : Statement (.p007 a b c) := (packABC_and _ a b c).trans rfl

theorem p010 (a b c : Field5) : Statement (.p010 a b c) := (packABC_and _ a b c).trans rfl

theorem p011 (a b c : Field5) : Statement (.p011 a b c) := (packABC_and _ a b c).trans rfl

theorem p012 (a b c : Field5) : Statement (.p012 a b c) := (packABC_and _ a b c).trans rfl

theorem p013 (a b c : Field5) : Statement (.p013 a b c) := (packABC_and _ a b c).trans rfl

theorem p014 (a b c : Field5) : Statement (.p014 a b c) := (packABC_and _ a b c).trans rfl

theorem p015 (a b c : Field5) : Statement (.p015 a b c) := (packABC_and _ a b c).trans rfl

theorem p016 (a b c : Field5) : Statement (.p016 a b c) := (packABC_and _ a b c).trans rfl

theorem p017 (a b c : Field5) : Statement (.p017 a b c) := (packABC_and _ a b c).trans rfl

theorem p020 (a b c : Field5) : Statement (.p020 a b c) := (packABC_and _ a b c).trans rfl

theorem p021 (a b c : Field5) : Statement (.p021 a b c) := (packABC_and _ a b c).trans rfl

theorem p022 (a b c : Field5) : Statement (.p022 a b c) := (packABC_and _ a b c).trans rfl

theorem p023 (a b c : Field5) : Statement (.p023 a b c) := (packABC_and _ a b c).trans rfl

theorem p024 (a b c : Field5) : Statement (.p024 a b c) := (packABC_and _ a b c).trans rfl

theorem p025 (a b c : Field5) : Statement (.p025 a b c) := (packABC_and _ a b c).trans rfl

theorem p026 (a b c : Field5) : Statement (.p026 a b c) := (packABC_and _ a b c).trans rfl

theorem p027 (a b c : Field5) : Statement (.p027 a b c) := (packABC_and _ a b c).trans rfl

theorem p030 (a b c : Field5) : Statement (.p030 a b c) := (packABC_and _ a b c).trans rfl

theorem p031 (a b c : Field5) : Statement (.p031 a b c) := (packABC_and _ a b c).trans rfl

theorem p032 (a b c : Field5) : Statement (.p032 a b c) := (packABC_and _ a b c).trans rfl

theorem p033 (a b c : Field5) : Statement (.p033 a b c) := (packABC_and _ a b c).trans rfl

theorem p034 (a b c : Field5) : Statement (.p034 a b c) := (packABC_and _ a b c).trans rfl

theorem p035 (a b c : Field5) : Statement (.p035 a b c) := (packABC_and _ a b c).trans rfl

theorem p036 (a b c : Field5) : Statement (.p036 a b c) := (packABC_and _ a b c).trans rfl

theorem p037 (a b c : Field5) : Statement (.p037 a b c) := (packABC_and _ a b c).trans rfl

theorem p040 (a b c : Field5) : Statement (.p040 a b c) := (packABC_and _ a b c).trans rfl

theorem p041 (a b c : Field5) : Statement (.p041 a b c) := (packABC_and _ a b c).trans rfl

theorem p042 (a b c : Field5) : Statement (.p042 a b c) := (packABC_and _ a b c).trans rfl

theorem p043 (a b c : Field5) : Statement (.p043 a b c) := (packABC_and _ a b c).trans rfl

theorem p044 (a b c : Field5) : Statement (.p044 a b c) := (packABC_and _ a b c).trans rfl

theorem p045 (a b c : Field5) : Statement (.p045 a b c) := (packABC_and _ a b c).trans rfl

theorem p046 (a b c : Field5) : Statement (.p046 a b c) := (packABC_and _ a b c).trans rfl

theorem p047 (a b c : Field5) : Statement (.p047 a b c) := (packABC_and _ a b c).trans rfl

theorem p050 (a b c : Field5) : Statement (.p050 a b c) := (packABC_and _ a b c).trans rfl

theorem p051 (a b c : Field5) : Statement (.p051 a b c) := (packABC_and _ a b c).trans rfl

theorem p052 (a b c : Field5) : Statement (.p052 a b c) := (packABC_and _ a b c).trans rfl

theorem p053 (a b c : Field5) : Statement (.p053 a b c) := (packABC_and _ a b c).trans rfl

theorem p054 (a b c : Field5) : Statement (.p054 a b c) := (packABC_and _ a b c).trans rfl

theorem p055 (a b c : Field5) : Statement (.p055 a b c) := (packABC_and _ a b c).trans rfl

theorem p056 (a b c : Field5) : Statement (.p056 a b c) := (packABC_and _ a b c).trans rfl

theorem p057 (a b c : Field5) : Statement (.p057 a b c) := (packABC_and _ a b c).trans rfl

theorem p060 (a b c : Field5) : Statement (.p060 a b c) := (packABC_and _ a b c).trans rfl

theorem p061 (a b c : Field5) : Statement (.p061 a b c) := (packABC_and _ a b c).trans rfl

theorem p062 (a b c : Field5) : Statement (.p062 a b c) := (packABC_and _ a b c).trans rfl

theorem p063 (a b c : Field5) : Statement (.p063 a b c) := (packABC_and _ a b c).trans rfl

theorem p064 (a b c : Field5) : Statement (.p064 a b c) := (packABC_and _ a b c).trans rfl

theorem p065 (a b c : Field5) : Statement (.p065 a b c) := (packABC_and _ a b c).trans rfl

theorem p066 (a b c : Field5) : Statement (.p066 a b c) := (packABC_and _ a b c).trans rfl

theorem p067 (a b c : Field5) : Statement (.p067 a b c) := (packABC_and _ a b c).trans rfl

theorem p070 (a b c : Field5) : Statement (.p070 a b c) := (packABC_and _ a b c).trans rfl

theorem p071 (a b c : Field5) : Statement (.p071 a b c) := (packABC_and _ a b c).trans rfl

theorem p072 (a b c : Field5) : Statement (.p072 a b c) := (packABC_and _ a b c).trans rfl

theorem p073 (a b c : Field5) : Statement (.p073 a b c) := (packABC_and _ a b c).trans rfl

theorem p074 (a b c : Field5) : Statement (.p074 a b c) := (packABC_and _ a b c).trans rfl

theorem p075 (a b c : Field5) : Statement (.p075 a b c) := (packABC_and _ a b c).trans rfl

theorem p076 (a b c : Field5) : Statement (.p076 a b c) := (packABC_and _ a b c).trans rfl

theorem p077 (a b c : Field5) : Statement (.p077 a b c) := (packABC_and _ a b c).trans rfl

theorem p1xx (rest : BitVec 21) : Statement (.p1xx rest) := (packRest21_and _ rest).trans rfl

theorem p2xx (rest : BitVec 21) : Statement (.p2xx rest) := (packRest21_and _ rest).trans rfl

theorem p3xx (rest : BitVec 21) : Statement (.p3xx rest) := (packRest21_and _ rest).trans rfl

theorem p4xx (rest : BitVec 21) : Statement (.p4xx rest) := (packRest21_and _ rest).trans rfl

theorem p5xx (rest : BitVec 21) : Statement (.p5xx rest) := (packRest21_and _ rest).trans rfl

theorem p6xx (rest : BitVec 21) : Statement (.p6xx rest) := (packRest21_and _ rest).trans rfl

theorem p7xx (rest : BitVec 21) : Statement (.p7xx rest) := (packRest21_and _ rest).trans rfl

theorem h0_00_0 (a b c : Field5) : Statement (.h0_00_0 a b c) := (packABC_and _ a b c).trans rfl

theorem h0_01_0 (a b c : Field5) : Statement (.h0_01_0 a b c) := (packABC_and _ a b c).trans rfl

theorem h0_00_1 (a b c : Field5) : Statement (.h0_00_1 a b c) := (packABC_and _ a b c).trans rfl

theorem h0_01_1 (a b c : Field5) : Statement (.h0_01_1 a b c) := (packABC_and _ a b c).trans rfl

theorem h0_00_2 (a b c : Field5) : Statement (.h0_00_2 a b c) := (packABC_and _ a b c).trans rfl

theorem h0_01_2 (a b c : Field5) : Statement (.h0_01_2 a b c) := (packABC_and _ a b c).trans rfl

theorem h0_00_3 (a b c : Field5) : Statement (.h0_00_3 a b c) := (packABC_and _ a b c).trans rfl

theorem h0_01_3 (a b c : Field5) : Statement (.h0_01_3 a b c) := (packABC_and _ a b c).trans rfl

theorem h0_00_4 (a b c : Field5) : Statement (.h0_00_4 a b c) := (packABC_and _ a b c).trans rfl

theorem h0_01_4 (a b c : Field5) : Statement (.h0_01_4 a b c) := (packABC_and _ a b c).trans rfl

theorem h0_00_5 (a b c : Field5) : Statement (.h0_00_5 a b c) := (packABC_and _ a b c).trans rfl

theorem h0_01_5 (a b c : Field5) : Statement (.h0_01_5 a b c) := (packABC_and _ a b c).trans rfl

theorem h0_00_6 (a b c : Field5) : Statement (.h0_00_6 a b c) := (packABC_and _ a b c).trans rfl

theorem h0_01_6 (a b c : Field5) : Statement (.h0_01_6 a b c) := (packABC_and _ a b c).trans rfl

theorem h0_00_7 (a b c : Field5) : Statement (.h0_00_7 a b c) := (packABC_and _ a b c).trans rfl

theorem h0_01_7 (a b c : Field5) : Statement (.h0_01_7 a b c) := (packABC_and _ a b c).trans rfl

theorem h0_10_0 (a b c : Field5) : Statement (.h0_10_0 a b c) := (packABC_and _ a b c).trans rfl

theorem h0_11_0 (a b c : Field5) : Statement (.h0_11_0 a b c) := (packABC_and _ a b c).trans rfl

theorem h0_10_1 (a b c : Field5) : Statement (.h0_10_1 a b c) := (packABC_and _ a b c).trans rfl

theorem h0_11_1 (a b c : Field5) : Statement (.h0_11_1 a b c) := (packABC_and _ a b c).trans rfl

theorem h0_10_2 (a b c : Field5) : Statement (.h0_10_2 a b c) := (packABC_and _ a b c).trans rfl

theorem h0_11_2 (a b c : Field5) : Statement (.h0_11_2 a b c) := (packABC_and _ a b c).trans rfl

theorem h0_10_3 (a b c : Field5) : Statement (.h0_10_3 a b c) := (packABC_and _ a b c).trans rfl

theorem h0_11_3 (a b c : Field5) : Statement (.h0_11_3 a b c) := (packABC_and _ a b c).trans rfl

theorem h0_10_4 (a b c : Field5) : Statement (.h0_10_4 a b c) := (packABC_and _ a b c).trans rfl

theorem h0_11_4 (a b c : Field5) : Statement (.h0_11_4 a b c) := (packABC_and _ a b c).trans rfl

theorem h0_10_5 (a b c : Field5) : Statement (.h0_10_5 a b c) := (packABC_and _ a b c).trans rfl

theorem h0_11_5 (a b c : Field5) : Statement (.h0_11_5 a b c) := (packABC_and _ a b c).trans rfl

theorem h0_10_6 (a b c : Field5) : Statement (.h0_10_6 a b c) := (packABC_and _ a b c).trans rfl

theorem h0_11_6 (a b c : Field5) : Statement (.h0_11_6 a b c) := (packABC_and _ a b c).trans rfl

theorem h0_10_7 (a b c : Field5) : Statement (.h0_10_7 a b c) := (packABC_and _ a b c).trans rfl

theorem h0_11_7 (a b c : Field5) : Statement (.h0_11_7 a b c) := (packABC_and _ a b c).trans rfl

theorem h0_2x (rest : BitVec 19) : Statement (.h0_2x rest) := (packRest19_and _ rest).trans rfl

theorem h0_3x (rest : BitVec 19) : Statement (.h0_3x rest) := (packRest19_and _ rest).trans rfl

theorem h1xx (rest : BitVec 21) : Statement (.h1xx rest) := (packRest21_and _ rest).trans rfl

theorem h2xx (rest : BitVec 21) : Statement (.h2xx rest) := (packRest21_and _ rest).trans rfl

theorem h3xx (rest : BitVec 21) : Statement (.h3xx rest) := (packRest21_and _ rest).trans rfl

theorem h4xx (rest : BitVec 21) : Statement (.h4xx rest) := (packRest21_and _ rest).trans rfl

theorem h5xx (rest : BitVec 21) : Statement (.h5xx rest) := (packRest21_and _ rest).trans rfl

theorem h6xx (rest : BitVec 21) : Statement (.h6xx rest) := (packRest21_and _ rest).trans rfl

theorem h7xx (rest : BitVec 21) : Statement (.h7xx rest) := (packRest21_and _ rest).trans rfl

theorem a00 (n : Addr13) (x : BitVec 3) (m : BitVec 2) : Statement (.a00 n x m) := (packNXFM_and n x _ m).trans rfl

theorem a01 (n : Addr13) (x : BitVec 3) (m : BitVec 2) : Statement (.a01 n x m) := (packNXFM_and n x _ m).trans rfl

theorem a02 (n : Addr13) (x : BitVec 3) (m : BitVec 2) : Statement (.a02 n x m) := (packNXFM_and n x _ m).trans rfl

theorem a03 (n : Addr13) (x : BitVec 3) (m : BitVec 2) : Statement (.a03 n x m) := (packNXFM_and n x _ m).trans rfl

theorem a04 (n : Addr13) (x : BitVec 3) (m : BitVec 2) : Statement (.a04 n x m) := (packNXFM_and n x _ m).trans rfl

theorem a05 (n : Addr13) (x : BitVec 3) (m : BitVec 2) : Statement (.a05 n x m) := (packNXFM_and n x _ m).trans rfl

theorem a06 (n : Addr13) (x : BitVec 3) (m : BitVec 2) : Statement (.a06 n x m) := (packNXFM_and n x _ m).trans rfl

theorem a07 (n : Addr13) (x : BitVec 3) (m : BitVec 2) : Statement (.a07 n x m) := (packNXFM_and n x _ m).trans rfl

theorem a10 (n : Addr13) (x : BitVec 3) (m : BitVec 2) : Statement (.a10 n x m) := (packNXFM_and n x _ m).trans rfl

theorem a11 (n : Addr13) (x : BitVec 3) (m : BitVec 2) : Statement (.a11 n x m) := (packNXFM_and n x _ m).trans rfl

theorem a12 (n : Addr13) (x : BitVec 3) (m : BitVec 2) : Statement (.a12 n x m) := (packNXFM_and n x _ m).trans rfl

theorem a13 (n : Addr13) (x : BitVec 3) (m : BitVec 2) : Statement (.a13 n x m) := (packNXFM_and n x _ m).trans rfl

theorem a14 (n : Addr13) (x : BitVec 3) (m : BitVec 2) : Statement (.a14 n x m) := (packNXFM_and n x _ m).trans rfl

theorem a15 (n : Addr13) (x : BitVec 3) (m : BitVec 2) : Statement (.a15 n x m) := (packNXFM_and n x _ m).trans rfl

theorem a16 (n : Addr13) (x : BitVec 3) (m : BitVec 2) : Statement (.a16 n x m) := (packNXFM_and n x _ m).trans rfl

theorem a17 (n : Addr13) (x : BitVec 3) (m : BitVec 2) : Statement (.a17 n x m) := (packNXFM_and n x _ m).trans rfl

theorem a20 (n : Addr13) (x : BitVec 3) (m : BitVec 2) : Statement (.a20 n x m) := (packNXFM_and n x _ m).trans rfl

theorem a21 (n : Addr13) (x : BitVec 3) (m : BitVec 2) : Statement (.a21 n x m) := (packNXFM_and n x _ m).trans rfl

theorem a22 (n : Addr13) (x : BitVec 3) (m : BitVec 2) : Statement (.a22 n x m) := (packNXFM_and n x _ m).trans rfl

theorem a23 (n : Addr13) (x : BitVec 3) (m : BitVec 2) : Statement (.a23 n x m) := (packNXFM_and n x _ m).trans rfl

theorem a24 (n : Addr13) (x : BitVec 3) (m : BitVec 2) : Statement (.a24 n x m) := (packNXFM_and n x _ m).trans rfl

theorem a25 (n : Addr13) (x : BitVec 3) (m : BitVec 2) : Statement (.a25 n x m) := (packNXFM_and n x _ m).trans rfl

theorem a26 (n : Addr13) (x : BitVec 3) (m : BitVec 2) : Statement (.a26 n x m) := (packNXFM_and n x _ m).trans rfl

theorem a27 (n : Addr13) (x : BitVec 3) (m : BitVec 2) : Statement (.a27 n x m) := (packNXFM_and n x _ m).trans rfl

theorem a30 (n : Addr13) (x : BitVec 3) (m : BitVec 2) : Statement (.a30 n x m) := (packNXFM_and n x _ m).trans rfl

theorem a31 (n : Addr13) (x : BitVec 3) (m : BitVec 2) : Statement (.a31 n x m) := (packNXFM_and n x _ m).trans rfl

theorem a32 (n : Addr13) (x : BitVec 3) (m : BitVec 2) : Statement (.a32 n x m) := (packNXFM_and n x _ m).trans rfl

theorem a33 (n : Addr13) (x : BitVec 3) (m : BitVec 2) : Statement (.a33 n x m) := (packNXFM_and n x _ m).trans rfl

theorem a34 (n : Addr13) (x : BitVec 3) (m : BitVec 2) : Statement (.a34 n x m) := (packNXFM_and n x _ m).trans rfl

theorem a35 (n : Addr13) (x : BitVec 3) (m : BitVec 2) : Statement (.a35 n x m) := (packNXFM_and n x _ m).trans rfl

theorem a36 (n : Addr13) (x : BitVec 3) (m : BitVec 2) : Statement (.a36 n x m) := (packNXFM_and n x _ m).trans rfl

theorem a37 (n : Addr13) (x : BitVec 3) (m : BitVec 2) : Statement (.a37 n x m) := (packNXFM_and n x _ m).trans rfl

theorem a40 (n : Addr13) (x : BitVec 3) (m : BitVec 2) : Statement (.a40 n x m) := (packNXFM_and n x _ m).trans rfl

theorem a41 (n : Addr13) (x : BitVec 3) (m : BitVec 2) : Statement (.a41 n x m) := (packNXFM_and n x _ m).trans rfl

theorem a42 (n : Addr13) (x : BitVec 3) (m : BitVec 2) : Statement (.a42 n x m) := (packNXFM_and n x _ m).trans rfl

theorem a43 (n : Addr13) (x : BitVec 3) (m : BitVec 2) : Statement (.a43 n x m) := (packNXFM_and n x _ m).trans rfl

theorem a44 (n : Addr13) (x : BitVec 3) (m : BitVec 2) : Statement (.a44 n x m) := (packNXFM_and n x _ m).trans rfl

theorem a45 (n : Addr13) (x : BitVec 3) (m : BitVec 2) : Statement (.a45 n x m) := (packNXFM_and n x _ m).trans rfl

theorem a46 (n : Addr13) (x : BitVec 3) (m : BitVec 2) : Statement (.a46 n x m) := (packNXFM_and n x _ m).trans rfl

theorem a47 (n : Addr13) (x : BitVec 3) (m : BitVec 2) : Statement (.a47 n x m) := (packNXFM_and n x _ m).trans rfl

theorem a50 (n : Addr13) (x : BitVec 3) (m : BitVec 2) : Statement (.a50 n x m) := (packNXFM_and n x _ m).trans rfl

theorem a51 (n : Addr13) (x : BitVec 3) (m : BitVec 2) : Statement (.a51 n x m) := (packNXFM_and n x _ m).trans rfl

theorem a52 (n : Addr13) (x : BitVec 3) (m : BitVec 2) : Statement (.a52 n x m) := (packNXFM_and n x _ m).trans rfl

theorem a53 (n : Addr13) (x : BitVec 3) (m : BitVec 2) : Statement (.a53 n x m) := (packNXFM_and n x _ m).trans rfl

theorem a54 (n : Addr13) (x : BitVec 3) (m : BitVec 2) : Statement (.a54 n x m) := (packNXFM_and n x _ m).trans rfl

theorem a55 (n : Addr13) (x : BitVec 3) (m : BitVec 2) : Statement (.a55 n x m) := (packNXFM_and n x _ m).trans rfl

theorem a56 (n : Addr13) (x : BitVec 3) (m : BitVec 2) : Statement (.a56 n x m) := (packNXFM_and n x _ m).trans rfl

theorem a57 (n : Addr13) (x : BitVec 3) (m : BitVec 2) : Statement (.a57 n x m) := (packNXFM_and n x _ m).trans rfl

theorem a60 (n : Addr13) (x : BitVec 3) (m : BitVec 2) : Statement (.a60 n x m) := (packNXFM_and n x _ m).trans rfl

theorem a61 (n : Addr13) (x : BitVec 3) (m : BitVec 2) : Statement (.a61 n x m) := (packNXFM_and n x _ m).trans rfl

theorem a62 (n : Addr13) (x : BitVec 3) (m : BitVec 2) : Statement (.a62 n x m) := (packNXFM_and n x _ m).trans rfl

theorem a63 (n : Addr13) (x : BitVec 3) (m : BitVec 2) : Statement (.a63 n x m) := (packNXFM_and n x _ m).trans rfl

theorem a64 (n : Addr13) (x : BitVec 3) (m : BitVec 2) : Statement (.a64 n x m) := (packNXFM_and n x _ m).trans rfl

theorem a65 (n : Addr13) (x : BitVec 3) (m : BitVec 2) : Statement (.a65 n x m) := (packNXFM_and n x _ m).trans rfl

theorem a66 (n : Addr13) (x : BitVec 3) (m : BitVec 2) : Statement (.a66 n x m) := (packNXFM_and n x _ m).trans rfl

theorem a67 (n : Addr13) (x : BitVec 3) (m : BitVec 2) : Statement (.a67 n x m) := (packNXFM_and n x _ m).trans rfl

theorem a70 (n : Addr13) (x : BitVec 3) (m : BitVec 2) : Statement (.a70 n x m) := (packNXFM_and n x _ m).trans rfl

theorem a71 (n : Addr13) (x : BitVec 3) (m : BitVec 2) : Statement (.a71 n x m) := (packNXFM_and n x _ m).trans rfl

theorem a72 (n : Addr13) (x : BitVec 3) (m : BitVec 2) : Statement (.a72 n x m) := (packNXFM_and n x _ m).trans rfl

theorem a73 (n : Addr13) (x : BitVec 3) (m : BitVec 2) : Statement (.a73 n x m) := (packNXFM_and n x _ m).trans rfl

theorem a74 (n : Addr13) (x : BitVec 3) (m : BitVec 2) : Statement (.a74 n x m) := (packNXFM_and n x _ m).trans rfl

theorem a75 (n : Addr13) (x : BitVec 3) (m : BitVec 2) : Statement (.a75 n x m) := (packNXFM_and n x _ m).trans rfl

theorem a76 (n : Addr13) (x : BitVec 3) (m : BitVec 2) : Statement (.a76 n x m) := (packNXFM_and n x _ m).trans rfl

theorem a77 (n : Addr13) (x : BitVec 3) (m : BitVec 2) : Statement (.a77 n x m) := (packNXFM_and n x _ m).trans rfl

end Sys2Proof.Laws.OpcodeBits
end

