-- ==== Sys2Proof/Laws/Shapes.lean ====
section
/-! SUPPORT. For each shape of order that several meanings share, what a next state of it is. -/

namespace Sys2Proof.Machine

variable {c : Config}

/-! ### Hermes -/

theorem HState.target1_eq_next {h : HState} {f : Field5} {d : Read} :
    h.target1 c f = .next d ↔
      f.toNat < c.hStoreSize ∧ d = ⟨toHermesAddress c (h.word c 0 f.toNat).val, (h.word c 0 f.toNat).events⟩ := by
  simp only [HState.target1, Result.andThen_eq_next, HState.readV_eq_next, Host.Outcome.next.injEq]
  exact ⟨fun ⟨_, ⟨h1, h2⟩, e⟩ => ⟨h1, by rw [← e, h2]⟩, fun ⟨h1, e⟩ => ⟨_, ⟨h1, rfl⟩, e.symm⟩⟩

/-- The target of a jump: VA's low bits, or the relative address. -/
theorem HState.target_eq_next {h : HState} {j : HJump} {f : Field5} {d : Read} :
    h.target c j f = .next d ↔
      (j = .throughVA ∧ f.toNat < c.hStoreSize ∧
        d = ⟨toHermesAddress c (h.word c 0 f.toNat).val, (h.word c 0 f.toNat).events⟩) ∨
      (j = .relative ∧ d = ⟨h.relativeTarget c f, []⟩) := by
  cases j
  · simp [HState.target, HState.target1_eq_next]
  · simp [HState.target, eq_comm]

theorem HState.target_lt {h : HState} {j : HJump} {f : Field5} {d : Read} (hd : h.target c j f = .next d) :
    d.val < 2 ^ c.hAW := by
  rcases HState.target_eq_next.1 hd with ⟨-, -, rfl⟩ | ⟨-, rfl⟩
  · exact toHermesAddress_lt _ _
  · exact HState.relativeTarget_lt _ _ _

/-- A sum answered is one word: H_W bits. -/
theorem HState.sumOf_lt {u v : Result Read} {r : Read} (h : HState.sumOf c u v = .next r) : r.val < 2 ^ c.hW := by
  obtain ⟨x, y, -, -, -, rfl⟩ := HState.sumOf_eq_next.1 h
  exact sumWord_lt _ _ _

/-- A jump cell that stores nothing: the sum, then the jump where the test holds. -/
theorem HState.testJump_eq_next {j : HJump} {t : HThird} {test : HTest} {fa fb fc : Field5} {h h' : HState} :
    HState.testJump j t test fa fb fc c h = .next h' ↔
      ∃ r, HState.sumOf c (h.readV c 1 fb.toNat) (h.third c t fc) = .next r ∧
        ((test.holds c.hW r.val = true ∧ ∃ d, h.target c j fa = .next d ∧
            h' = (h.record (r.events ++ d.events)).jumpTo d.val) ∨
          (test.holds c.hW r.val = false ∧ h' = (h.record r.events).advance c)) := by
  simp only [HState.testJump, Result.andThen_eq_next]
  refine exists_congr fun r => and_congr_right fun _ => ?_
  cases test.holds c.hW r.val
  · simp [eq_comm]
  · simp only [if_true, Result.andThen_eq_next, Host.Outcome.next.injEq, true_and, Bool.true_eq_false, false_and, or_false]
    exact ⟨fun ⟨d, h, e⟩ => ⟨d, h, e.symm⟩, fun ⟨d, h, e⟩ => ⟨d, h, e.symm⟩⟩

/-- A jump cell that stores the sum back: the target and the sum on the state before, then the store. -/
theorem HState.storeJump_eq_next {j : HJump} {t : HThird} {test : HTest} {fa fb fc : Field5} {h h' : HState} :
    HState.storeJump j t test fa fb fc c h = .next h' ↔
      ∃ d r, h.target c j fa = .next d ∧ HState.sumOf c (h.readV c 1 fb.toNat) (h.third c t fc) = .next r ∧
        fb.toNat < c.hStoreSize ∧
        h' = ((h.putV fb.toNat r.val).record (d.events ++ r.events)).jumpTo
          (if test.holds c.hW r.val then d.val else h.nextPc c) := by
  simp only [HState.storeJump, Result.andThen_eq_next, HState.writeV_eq_next, Host.Outcome.next.injEq]
  constructor
  · rintro ⟨d, hd, r, hr, h1, ⟨hlt, rfl⟩, rfl⟩
    exact ⟨d, r, hd, hr, hlt, rfl⟩
  · rintro ⟨d, r, hd, hr, hlt, rfl⟩
    exact ⟨d, hd, r, hr, _, ⟨hlt, rfl⟩, rfl⟩

/-- `VA = VB + third`, then the step of N1. -/
theorem HState.sumToVA_eq_next {t : HThird} {k : N1Step} {fa fb fc : Field5} {h h' : HState} :
    HState.sumToVA t k fa fb fc c h = .next h' ↔
      ∃ r, HState.sumOf c (h.readV c 1 fb.toNat) (h.third c t fc) = .next r ∧ fa.toNat < c.hStoreSize ∧
        h' = (((h.putV fa.toNat r.val).stepN1 c k).record r.events).advance c := by
  simp only [HState.sumToVA, Result.andThen_eq_next, HState.writeV_eq_next, Host.Outcome.next.injEq]
  constructor
  · rintro ⟨r, hr, h1, ⟨hlt, rfl⟩, rfl⟩
    exact ⟨r, hr, hlt, rfl⟩
  · rintro ⟨r, hr, hlt, rfl⟩
    exact ⟨r, hr, _, ⟨hlt, rfl⟩, rfl⟩

/-- `N1 = VA, VN1 = VB + VC`. -/
theorem HState.sumThroughVA_eq_next {fa fb fc : Field5} {h h' : HState} :
    HState.sumThroughVA fa fb fc c h = .next h' ↔
      ∃ r d, HState.sumOf c (h.readV c 1 fb.toNat) (h.readV c 2 fc.toNat) = .next r ∧ h.target1 c fa = .next d ∧
        d.val < c.hStoreSize ∧
        h' = (((h.putV d.val r.val).setN1 d.val).record (r.events ++ d.events)).advance c := by
  simp only [HState.sumThroughVA, Result.andThen_eq_next, HState.writeV_eq_next, Host.Outcome.next.injEq]
  constructor
  · rintro ⟨r, hr, d, hd, h1, ⟨hlt, rfl⟩, rfl⟩
    exact ⟨r, d, hr, hd, hlt, rfl⟩
  · rintro ⟨r, d, hr, hd, hlt, rfl⟩
    exact ⟨r, hr, d, hd, _, ⟨hlt, rfl⟩, rfl⟩

/-- `V[N1 + A] = VB + VC`. -/
theorem HState.sumToOffset_eq_next {fa fb fc : Field5} {h h' : HState} :
    HState.sumToOffset fa fb fc c h = .next h' ↔
      ∃ r, HState.sumOf c (h.readV c 1 fb.toNat) (h.readV c 2 fc.toNat) = .next r ∧
        h.offsetAddress c fa < c.hStoreSize ∧ h' = ((h.putV (h.offsetAddress c fa) r.val).record r.events).advance c := by
  simp only [HState.sumToOffset, Result.andThen_eq_next, HState.writeV_eq_next, Host.Outcome.next.injEq]
  constructor
  · rintro ⟨r, hr, h1, ⟨hlt, rfl⟩, rfl⟩
    exact ⟨r, hr, hlt, rfl⟩
  · rintro ⟨r, hr, hlt, rfl⟩
    exact ⟨r, hr, _, ⟨hlt, rfl⟩, rfl⟩

/-- A word of the store taken as N1, and the location it names read. -/
theorem HState.readThrough_eq_next {h : HState} {which : Nat} {f : Field5} {i : Indirect} :
    h.readThrough c which f = .next i ↔
      f.toNat < c.hStoreSize ∧ toHermesAddress c (h.word c which f.toNat).val < c.hStoreSize ∧
        i = ⟨toHermesAddress c (h.word c which f.toNat).val,
          ⟨(h.word c 3 (toHermesAddress c (h.word c which f.toNat).val)).val,
            (h.word c which f.toNat).events ++
              (h.word c 3 (toHermesAddress c (h.word c which f.toNat).val)).events⟩⟩ := by
  simp only [HState.readThrough, Result.andThen_eq_next, HState.readV_eq_next, Host.Outcome.next.injEq]
  constructor
  · rintro ⟨w, ⟨h1, rfl⟩, v, ⟨h2, rfl⟩, rfl⟩
    exact ⟨h1, h2, rfl⟩
  · rintro ⟨h1, h2, rfl⟩
    exact ⟨_, ⟨h1, rfl⟩, _, ⟨h2, rfl⟩, rfl⟩

/-- `N1 = VB, VA = VN1 + VC`. -/
theorem HState.loadThroughVB_eq_next {fa fb fc : Field5} {h h' : HState} :
    HState.loadThroughVB fa fb fc c h = .next h' ↔
      ∃ i r, h.readThrough c 1 fb = .next i ∧ HState.sumOf c (.next i.read) (h.readV c 2 fc.toNat) = .next r ∧
        fa.toNat < c.hStoreSize ∧ h' = (((h.putV fa.toNat r.val).setN1 i.n1).record r.events).advance c := by
  simp only [HState.loadThroughVB, Result.andThen_eq_next, HState.writeV_eq_next, Host.Outcome.next.injEq]
  constructor
  · rintro ⟨i, hi, r, hr, h1, ⟨hlt, rfl⟩, rfl⟩
    exact ⟨i, r, hi, hr, hlt, rfl⟩
  · rintro ⟨i, r, hi, hr, hlt, rfl⟩
    exact ⟨i, hi, r, hr, _, ⟨hlt, rfl⟩, rfl⟩

/-- `N1 = VC, VA = VB + VN1`. -/
theorem HState.loadThroughVC_eq_next {fa fb fc : Field5} {h h' : HState} :
    HState.loadThroughVC fa fb fc c h = .next h' ↔
      ∃ i r, h.readThrough c 2 fc = .next i ∧ HState.sumOf c (h.readV c 1 fb.toNat) (.next i.read) = .next r ∧
        fa.toNat < c.hStoreSize ∧ h' = (((h.putV fa.toNat r.val).setN1 i.n1).record r.events).advance c := by
  simp only [HState.loadThroughVC, Result.andThen_eq_next, HState.writeV_eq_next, Host.Outcome.next.injEq]
  constructor
  · rintro ⟨i, hi, r, hr, h1, ⟨hlt, rfl⟩, rfl⟩
    exact ⟨i, r, hi, hr, hlt, rfl⟩
  · rintro ⟨i, r, hi, hr, hlt, rfl⟩
    exact ⟨i, hi, r, hr, _, ⟨hlt, rfl⟩, rfl⟩

/-- `VA = V[N1 = B] + VC`, `VA = VB + V[N1 = C]`. -/
theorem HState.sumNaming_eq_next {f fa fb fc : Field5} {h h' : HState} :
    HState.sumNaming f fa fb fc c h = .next h' ↔
      ∃ r, HState.sumOf c (h.readV c 1 fb.toNat) (h.readV c 2 fc.toNat) = .next r ∧ fa.toNat < c.hStoreSize ∧
        h' = (((h.putV fa.toNat r.val).setN1 (f.toNat % 2 ^ c.hAW)).record r.events).advance c := by
  simp only [HState.sumNaming, Result.andThen_eq_next, HState.writeV_eq_next, Host.Outcome.next.injEq]
  constructor
  · rintro ⟨r, hr, h1, ⟨hlt, rfl⟩, rfl⟩
    exact ⟨r, hr, hlt, rfl⟩
  · rintro ⟨r, hr, hlt, rfl⟩
    exact ⟨r, hr, _, ⟨hlt, rfl⟩, rfl⟩

/-! ### Argus -/

variable {a a' : AState} {n : Addr13} {x : BitVec 3} {m : BitVec 2}

/-- Where the store operand of an order lies in the store: not a long operand at 0, and below A_STORE_SIZE. -/
theorem AState.storeToAcc_eq_next {f : AFunction} :
    AState.storeToAcc f n x m c a = .next a' ↔
      ¬(isLong x = true ∧ a.effectiveN c n m = 0) ∧ (a.effectiveN c n m).toNat < c.aStoreSize ∧
        a' = (((a.setx c x (f.apply (accWidth c x) (a.xval c x) (a.storeOperand c x (a.effectiveN c n m)).val)).noteOverflow
            (f.overflows (accWidth c x) (a.xval c x) (a.storeOperand c x (a.effectiveN c n m)).val)).record
              (a.storeOperand c x (a.effectiveN c n m)).events).advance := by
  simp only [AState.storeToAcc, Result.andThen_eq_next, AState.nval_eq_next, Host.Outcome.next.injEq]
  constructor
  · rintro ⟨o, ⟨h1, h2, rfl⟩, rfl⟩
    exact ⟨h1, h2, rfl⟩
  · rintro ⟨h1, h2, rfl⟩
    exact ⟨_, ⟨h1, h2, rfl⟩, rfl⟩

/-- Group 1F: the store operand is read where the function reads it, and written. -/
theorem AState.accToStore_eq_next {f : AFunction} :
    AState.accToStore f n x m c a = .next a' ↔
      ∃ o, a.firstOperand c f x (a.effectiveN c n m) = .next o ∧
        ¬(isLong x = true ∧ a.effectiveN c n m = 0) ∧ (a.effectiveN c n m).toNat < c.aStoreSize ∧
        a' = (((a.putOperand c x (a.effectiveN c n m) (f.apply (accWidth c x) o.val (a.xval c x))).noteOverflow
            (f.overflows (accWidth c x) o.val (a.xval c x))).record o.events).advance := by
  simp only [AState.accToStore, Result.andThen_eq_next, AState.setn_eq_next, Host.Outcome.next.injEq]
  constructor
  · rintro ⟨o, ho, a1, ⟨h1, h2, rfl⟩, rfl⟩
    exact ⟨o, ho, h1, h2, rfl⟩
  · rintro ⟨o, ho, h1, h2, rfl⟩
    exact ⟨o, ho, _, ⟨h1, h2, rfl⟩, rfl⟩

/-- The first operand of group 1F: nothing is read for 10 and 12. -/
theorem AState.firstOperand_eq_next {f : AFunction} {ne : Addr13} {o : Read} :
    a.firstOperand c f x ne = .next o ↔
      (f.readsFirst = true ∧ ¬(isLong x = true ∧ ne = 0) ∧ ne.toNat < c.aStoreSize ∧ o = a.storeOperand c x ne) ∨
      (f.readsFirst = false ∧ o = ⟨0, []⟩) := by
  unfold AState.firstOperand
  cases f.readsFirst
  · simp only [Bool.false_eq_true, if_false, Host.Outcome.next.injEq, false_and, false_or, true_and]
    exact eq_comm
  · simp only [if_true, AState.nval_eq_next, true_and, Bool.true_eq_false, false_and, or_false]

/-- Functions 20, 21, 24, 25: the value goes to P or (pq). -/
theorem AState.toProduct_eq_next {value : AState → Nat → Nat → Nat} :
    AState.toProduct value n x m c a = .next a' ↔
      ¬(isLong x = true ∧ a.effectiveN c n m = 0) ∧ (a.effectiveN c n m).toNat < c.aStoreSize ∧
        a' = ((a.setProduct c x (value a (a.storeOperand c x (a.effectiveN c n m)).val (a.xval c x))).record
              (a.storeOperand c x (a.effectiveN c n m)).events).advance := by
  simp only [AState.toProduct, Result.andThen_eq_next, AState.nval_eq_next, Host.Outcome.next.injEq]
  constructor
  · rintro ⟨o, ⟨h1, h2, rfl⟩, rfl⟩
    exact ⟨h1, h2, rfl⟩
  · rintro ⟨h1, h2, rfl⟩
    exact ⟨_, ⟨h1, h2, rfl⟩, rfl⟩

/-- Function 26: a next state of 25 with P2 or Q cleared. -/
theorem AState.divideRoundedAlone_eq_next :
    a.divideRoundedAlone n x m c = .next a' ↔
      c.aDiv = true ∧ ∃ a1, a.divideRounded n x m c = .next a1 ∧ a' = a1.clearRemainder x := by
  unfold AState.divideRoundedAlone
  cases c.aDiv
  · simp
  · simp only [if_true, Result.andThen_eq_next, Host.Outcome.next.injEq, true_and]
    exact ⟨fun ⟨y, h, e⟩ => ⟨y, h, e.symm⟩, fun ⟨y, h, e⟩ => ⟨y, h, e.symm⟩⟩

/-- A word delivered to the place of a register. -/
theorem AState.deliverTo_eq_next {place : IoPlace} {own : Nat → AState → AState} {v : Nat} :
    a.deliverTo c place own v = .next a' ↔
      (∃ i, place = .accumulator i ∧ a' = { a with x := a.x.set i v }) ∨
      (∃ e, place = .shortAddress e ∧ e.toNat < c.aStoreSize ∧ a' = a.putS e.toNat v) ∨
      (place = .ownCell ∧ a' = own v a) := by
  cases place with
  | accumulator i => simp [AState.deliverTo, eq_comm]
  | shortAddress e =>
    simp only [AState.deliverTo]
    split_ifs with h
    · simp; omega
    · simp [eq_comm]; omega
  | ownCell => simp [AState.deliverTo, eq_comm]

/-- Functions 30 to 32: A_IOREG is supplied and the word goes to the register's place. -/
theorem AState.selectInput_eq_next {fn : BitVec 6} {place : IoRegisters → IoPlace} {own : Nat → AState → AState} :
    AState.selectInput fn place own n m c a = .next a' ↔
      ∃ regs a1, c.aIoReg = some regs ∧ a.deliverTo c (place regs) own (a.inputWord c) = .next a1 ∧
        a' = (a1.record [.input fn (a.effectiveN c n m) (a.inputWord c)]).advance := by
  unfold AState.selectInput
  cases c.aIoReg with
  | none => simp
  | some regs =>
    simp only [Result.andThen_eq_next, Host.Outcome.next.injEq, Option.some.injEq]
    constructor
    · rintro ⟨a1, h, rfl⟩
      exact ⟨regs, a1, rfl, h, rfl⟩
    · rintro ⟨_, a1, rfl, h, rfl⟩
      exact ⟨a1, h, rfl⟩

/-! ### Fetch and step -/

theorem loadedOrder_eq_next {p : Program} {e : Nat} {w : Order} :
    loadedOrder p e = .next w ↔ Cells.read? p e = some w := by
  unfold loadedOrder
  cases Cells.read? p e <;> simp

/-- The ordinary step obeys the order fetched. -/
theorem State.obeyNext_eq_next {s t : State} {m : MachineId} :
    s.obeyNext m = .next t ↔ ∃ w, s.fetch m = .next w ∧ exec (decode m w) s = .next t := by
  simp [State.obeyNext, Result.andThen_eq_next]

/-- Every step of an Apollo is refused. -/
theorem State.stepRunning_of_apollo {s : State} (h : s.running = .apollo) : s.stepRunning = .refused .apolloNoData := by
  simp [State.stepRunning, h]

/-- A step of the Argus that has a next state: it is not halted, and the step is the ordinary one, or, where an interruption is
possible, the recorded choice and then the entry or the order. -/
theorem State.stepArgus_eq_next {s t : State} (h : s.stepArgus = .next t) : s.a.halted = false ∧
    ((s.a.interruptionEntry s.cfg = none ∧ s.obeyNext .argus = .next t) ∨
      ∃ e, s.a.interruptionEntry s.cfg = some e ∧
        ((s.a.interruptionTaken = true ∧ t = s.withA ((s.a.record [.interruption true]).takeInterruption e)) ∨
          (s.a.interruptionTaken = false ∧ (s.withA (s.a.record [.interruption false])).obeyNext .argus = .next t))) := by
  unfold State.stepArgus at h
  cases hh : s.a.halted <;> simp only [hh, Bool.false_eq_true, if_true, if_false, reduceCtorEq] at h
  cases he : s.a.interruptionEntry s.cfg <;> simp only [he] at h
  · exact ⟨rfl, .inl ⟨rfl, h⟩⟩
  · cases ht : s.a.interruptionTaken <;> simp only [ht, Bool.false_eq_true, if_true, if_false] at h
    · exact ⟨rfl, .inr ⟨_, rfl, .inr ⟨rfl, h⟩⟩⟩
    · injection h with h
      exact ⟨rfl, .inr ⟨_, rfl, .inl ⟨rfl, h.symm⟩⟩⟩

/-- A step that has a next state is an order of the running machine, or the entry of an Argus interruption. -/
theorem State.stepRunning_eq_next {s t : State} (h : s.stepRunning = .next t) :
    (s.running = .poseidon ∧ s.obeyNext .poseidon = .next t) ∨ (s.running = .hermes ∧ s.obeyNext .hermes = .next t) ∨
      (s.running = .argus ∧ s.stepArgus = .next t) := by
  cases hr : s.running <;> simp_all [State.stepRunning]

/-- An order placed is the order the next fetch reads, where the program counter lies in the program store. -/
theorem State.fetch_placeOrder (s : State) (m : MachineId) (w : Order) (hm : s.running.machine = some m)
    (h : s.fetch m ≠ .fault .poseidonFetchOutside) (h' : s.fetch m ≠ .fault .hermesFetchOutside) :
    (s.placeOrder w).fetch m = .next w := by
  unfold State.fetch at h h'
  unfold State.placeOrder
  cases hr : s.running <;> simp only [hr, Family.machine, reduceCtorEq, Option.some.injEq] at hm <;> subst hm <;>
    simp only [State.fetch] at h h' ⊢
  · split_ifs at h with h1
    · exact absurd rfl h
    · rw [if_neg h1, loadedOrder_eq_next]; simp
  · split_ifs at h' with h1
    · exact absurd rfl h'
    · rw [if_neg h1, loadedOrder_eq_next]; simp
  · rw [loadedOrder_eq_next]; simp

end Sys2Proof.Machine
end

