-- ==== Sys2Proof/Tests/Slice0.lean ====
section
/-! SUPPORT. Tests on fixed values: the checks of WellFormed, words written out from the formats of spec/30_encoding.md, single steps
from the vectors of spec/95_test_vectors.md, and a witness for the hypotheses of each statement. -/

namespace Sys2Proof.Tests

open Sys2Proof.Machine

/-! ### Helpers -/

/-- The configuration of the vectors (spec/95_test_vectors.md). -/
def vectorConfig : Config := { Config.standard with pPlain := 0xFFFFFFF0#32, pFpsSize := 4096 }

/-- What `f` reads in the next state, if there is one. -/
def after {α : Type} (o : Result State) (f : State → α) : Option α :=
  match o with
  | .next t => some (f t)
  | .fault _ => none
  | .refused _ => none

/-- The reason of a refusal, if it is one. -/
def refusalOf (o : Result State) : Option Refusal :=
  match o with
  | .next _ => none
  | .fault _ => none
  | .refused e => some e

/-- The fault, if it is one. -/
def faultOf (o : Result State) : Option Fault :=
  match o with
  | .next _ => none
  | .fault e => some e
  | .refused _ => none

theorem completes_of {o : Result State} (h : after o (fun _ => true) = some true) : Completes o := by
  cases o with
  | next t => exact ⟨t, rfl⟩
  | fault e => simp [after] at h
  | refused e => simp [after] at h

/-- A Poseidon at address 10 with word `w` there. -/
def onP (w : Nat) (f : PState → PState) : State :=
  State.withFetchWord { State.reset with cfg := vectorConfig, p := f { PState.reset vectorConfig with pc := 10 } } 24 w

/-- The Poseidon after that step. -/
def stepP {α : Type} (w : Nat) (f : PState → PState) (g : PState → α) : Option α := after (step (onP w f)) fun t => g t.p

/-- P.R[6] and P.R[7] set. -/
def r67 (b c : Nat) (p : PState) : PState := { p with r := (p.r.set 6 b).set 7 c }

/-- A Hermes at address 20 with word `w` there and the store words listed. -/
def onH (w : Nat) (v : Memory) (n1 : Nat) (c : Config) : State :=
  State.withFetchWord
    { State.reset with running := .hermes, cfg := c, h := { HState.reset c with v := v, n1 := n1, pc := 20 } } 24 w

/-- The Hermes after that step. -/
def stepH {α : Type} (w : Nat) (v : Memory) (n1 : Nat) (g : HState → α) : Option α :=
  after (step (onH w v n1 vectorConfig)) fun t => g t.h

/-- An Argus at address 20 with word `w` there. -/
def onA (w : Nat) (c : Config) (f : AState → AState) : State :=
  State.withFetchWord
    { State.reset with running := .argus, cfg := c, a := f { AState.reset c with pc := 20 } } 24 w

/-- The Argus after that step. -/
def stepA {α : Type} (w : Nat) (f : AState → AState) (g : AState → α) : Option α :=
  after (step (onA w vectorConfig f)) fun t => g t.a

/-- The vectors with A_W = 12. -/
def narrowConfig : Config := { vectorConfig with aW := 12 }

/-- Accumulator 3 set. -/
def x3 (v : Nat) (a : AState) : AState := { a with x := a.x.set 3 v }

/-- Accumulators 4 and 5 set. -/
def x45 (u v : Nat) (a : AState) : AState := { a with x := (a.x.set 4 u).set 5 v }

/-- A.S set. -/
def store (s : Memory) (a : AState) : AState := { a with s := s }

/-! ### WellFormed refuses an ill-formed term for each check -/

theorem test_refuses_collate_at_address_3 : Instr.formError (.p004 5 3 7) = some .collateAtAddress3 ∧ ¬Instr.WellFormed (.p004 5 3 7) := by decide

theorem test_refuses_address_3_outside_v7 : Instr.formError (.p000 3 6 7) = some .address3OutsideV7 ∧ ¬Instr.WellFormed (.p000 3 6 7) := by decide

theorem test_refuses_v7_without_address_3 : Instr.formError (.p070 5 6 7) = some .noAddress3InV7 ∧ ¬Instr.WellFormed (.p070 5 6 7) := by decide

theorem test_refuses_address_2_as_destination : Instr.formError (.p050 2 6 7) = some .address2AsDestination ∧ ¬Instr.WellFormed (.p050 2 6 7) := by decide

theorem test_refuses_address_2_outside_v5 : Instr.formError (.p000 5 2 7) = some .address2OutsideV5 ∧ ¬Instr.WellFormed (.p000 5 2 7) := by decide

theorem test_refuses_shift_of_x_5 : Instr.formError (.a52 1 5 0) = some .shiftNeedsX4or7 ∧ ¬Instr.WellFormed (.a52 1 5 0) := by decide

theorem test_refuses_count_overlapping_p : Instr.formError (.a54 0 4 0) = some .countOverlapsValue ∧ ¬Instr.WellFormed (.a54 0 4 0) := by decide

theorem test_refuses_count_overlapping_pq : Instr.formError (.a55 0 6 0) = some .countOverlapsValue ∧ ¬Instr.WellFormed (.a55 0 6 0) := by decide

theorem test_well_formed : Instr.WellFormed (.p050 5 2 2) ∧ Instr.WellFormed (.p070 3 3 3) ∧ Instr.WellFormed (.a54 0 6 0) := by decide

/-! ### Words written out field by field

Poseidon and Hermes words are nine function bits and A = 5, B = 6, C = 7 (or A = 29); Argus words are N = 100, X = 3, F, M = 1. -/

theorem test_decode_poseidon_v0 :
    decode .poseidon 0o00012307#24 = .p000 5 6 7 ∧ decode .poseidon 0o00112307#24 = .p001 5 6 7 ∧
    decode .poseidon 0o00212307#24 = .p002 5 6 7 ∧ decode .poseidon 0o00312307#24 = .p003 5 6 7 ∧
    decode .poseidon 0o00412307#24 = .p004 5 6 7 ∧ decode .poseidon 0o00512307#24 = .p005 5 6 7 ∧
    decode .poseidon 0o00612307#24 = .p006 5 6 7 ∧ decode .poseidon 0o00712307#24 = .p007 5 6 7 := by decide

theorem test_decode_poseidon_v1 :
    decode .poseidon 0o01012307#24 = .p010 5 6 7 ∧ decode .poseidon 0o01112307#24 = .p011 5 6 7 ∧
    decode .poseidon 0o01212307#24 = .p012 5 6 7 ∧ decode .poseidon 0o01312307#24 = .p013 5 6 7 ∧
    decode .poseidon 0o01412307#24 = .p014 5 6 7 ∧ decode .poseidon 0o01512307#24 = .p015 5 6 7 ∧
    decode .poseidon 0o01612307#24 = .p016 5 6 7 ∧ decode .poseidon 0o01712307#24 = .p017 5 6 7 := by decide

theorem test_decode_poseidon_v2 :
    decode .poseidon 0o02012307#24 = .p020 5 6 7 ∧ decode .poseidon 0o02112307#24 = .p021 5 6 7 ∧
    decode .poseidon 0o02212307#24 = .p022 5 6 7 ∧ decode .poseidon 0o02312307#24 = .p023 5 6 7 ∧
    decode .poseidon 0o02412307#24 = .p024 5 6 7 ∧ decode .poseidon 0o02512307#24 = .p025 5 6 7 ∧
    decode .poseidon 0o02612307#24 = .p026 5 6 7 ∧ decode .poseidon 0o02712307#24 = .p027 5 6 7 := by decide

theorem test_decode_poseidon_v3 :
    decode .poseidon 0o03012307#24 = .p030 5 6 7 ∧ decode .poseidon 0o03112307#24 = .p031 5 6 7 ∧
    decode .poseidon 0o03212307#24 = .p032 5 6 7 ∧ decode .poseidon 0o03312307#24 = .p033 5 6 7 ∧
    decode .poseidon 0o03412307#24 = .p034 5 6 7 ∧ decode .poseidon 0o03512307#24 = .p035 5 6 7 ∧
    decode .poseidon 0o03612307#24 = .p036 5 6 7 ∧ decode .poseidon 0o03712307#24 = .p037 5 6 7 := by decide

theorem test_decode_poseidon_v4 :
    decode .poseidon 0o04012307#24 = .p040 5 6 7 ∧ decode .poseidon 0o04112307#24 = .p041 5 6 7 ∧
    decode .poseidon 0o04212307#24 = .p042 5 6 7 ∧ decode .poseidon 0o04312307#24 = .p043 5 6 7 ∧
    decode .poseidon 0o04412307#24 = .p044 5 6 7 ∧ decode .poseidon 0o04512307#24 = .p045 5 6 7 ∧
    decode .poseidon 0o04612307#24 = .p046 5 6 7 ∧ decode .poseidon 0o04712307#24 = .p047 5 6 7 := by decide

theorem test_decode_poseidon_v5 :
    decode .poseidon 0o05012307#24 = .p050 5 6 7 ∧ decode .poseidon 0o05112307#24 = .p051 5 6 7 ∧
    decode .poseidon 0o05212307#24 = .p052 5 6 7 ∧ decode .poseidon 0o05312307#24 = .p053 5 6 7 ∧
    decode .poseidon 0o05412307#24 = .p054 5 6 7 ∧ decode .poseidon 0o05512307#24 = .p055 5 6 7 ∧
    decode .poseidon 0o05612307#24 = .p056 5 6 7 ∧ decode .poseidon 0o05712307#24 = .p057 5 6 7 := by decide

theorem test_decode_poseidon_v6 :
    decode .poseidon 0o06012307#24 = .p060 5 6 7 ∧ decode .poseidon 0o06112307#24 = .p061 5 6 7 ∧
    decode .poseidon 0o06212307#24 = .p062 5 6 7 ∧ decode .poseidon 0o06312307#24 = .p063 5 6 7 ∧
    decode .poseidon 0o06412307#24 = .p064 5 6 7 ∧ decode .poseidon 0o06512307#24 = .p065 5 6 7 ∧
    decode .poseidon 0o06612307#24 = .p066 5 6 7 ∧ decode .poseidon 0o06712307#24 = .p067 5 6 7 := by decide

theorem test_decode_poseidon_v7 :
    decode .poseidon 0o07012307#24 = .p070 5 6 7 ∧ decode .poseidon 0o07112307#24 = .p071 5 6 7 ∧
    decode .poseidon 0o07212307#24 = .p072 5 6 7 ∧ decode .poseidon 0o07312307#24 = .p073 5 6 7 ∧
    decode .poseidon 0o07412307#24 = .p074 5 6 7 ∧ decode .poseidon 0o07512307#24 = .p075 5 6 7 ∧
    decode .poseidon 0o07612307#24 = .p076 5 6 7 ∧ decode .poseidon 0o07712307#24 = .p077 5 6 7 := by decide

theorem test_decode_poseidon_groups :
    decode .poseidon 0o11234567#24 = .p1xx 0o1234567#21 ∧ decode .poseidon 0o21234567#24 = .p2xx 0o1234567#21 ∧
    decode .poseidon 0o31234567#24 = .p3xx 0o1234567#21 ∧ decode .poseidon 0o41234567#24 = .p4xx 0o1234567#21 ∧
    decode .poseidon 0o51234567#24 = .p5xx 0o1234567#21 ∧ decode .poseidon 0o61234567#24 = .p6xx 0o1234567#21 ∧
    decode .poseidon 0o71234567#24 = .p7xx 0o1234567#21 := by decide

theorem test_decode_hermes_i0 :
    decode .hermes 0o00072307#24 = .h0_00_0 (-3) 6 7 ∧ decode .hermes 0o01072307#24 = .h0_01_0 (-3) 6 7 ∧
    decode .hermes 0o00172307#24 = .h0_00_1 (-3) 6 7 ∧ decode .hermes 0o01172307#24 = .h0_01_1 (-3) 6 7 ∧
    decode .hermes 0o00272307#24 = .h0_00_2 (-3) 6 7 ∧ decode .hermes 0o01272307#24 = .h0_01_2 (-3) 6 7 ∧
    decode .hermes 0o00372307#24 = .h0_00_3 (-3) 6 7 ∧ decode .hermes 0o01372307#24 = .h0_01_3 (-3) 6 7 ∧
    decode .hermes 0o00472307#24 = .h0_00_4 (-3) 6 7 ∧ decode .hermes 0o01472307#24 = .h0_01_4 (-3) 6 7 ∧
    decode .hermes 0o00572307#24 = .h0_00_5 (-3) 6 7 ∧ decode .hermes 0o01572307#24 = .h0_01_5 (-3) 6 7 ∧
    decode .hermes 0o00672307#24 = .h0_00_6 (-3) 6 7 ∧ decode .hermes 0o01672307#24 = .h0_01_6 (-3) 6 7 ∧
    decode .hermes 0o00772307#24 = .h0_00_7 (-3) 6 7 ∧ decode .hermes 0o01772307#24 = .h0_01_7 (-3) 6 7 := by decide

theorem test_decode_hermes_i1 :
    decode .hermes 0o02072307#24 = .h0_10_0 (-3) 6 7 ∧ decode .hermes 0o03072307#24 = .h0_11_0 (-3) 6 7 ∧
    decode .hermes 0o02172307#24 = .h0_10_1 (-3) 6 7 ∧ decode .hermes 0o03172307#24 = .h0_11_1 (-3) 6 7 ∧
    decode .hermes 0o02272307#24 = .h0_10_2 (-3) 6 7 ∧ decode .hermes 0o03272307#24 = .h0_11_2 (-3) 6 7 ∧
    decode .hermes 0o02372307#24 = .h0_10_3 (-3) 6 7 ∧ decode .hermes 0o03372307#24 = .h0_11_3 (-3) 6 7 ∧
    decode .hermes 0o02472307#24 = .h0_10_4 (-3) 6 7 ∧ decode .hermes 0o03472307#24 = .h0_11_4 (-3) 6 7 ∧
    decode .hermes 0o02572307#24 = .h0_10_5 (-3) 6 7 ∧ decode .hermes 0o03572307#24 = .h0_11_5 (-3) 6 7 ∧
    decode .hermes 0o02672307#24 = .h0_10_6 (-3) 6 7 ∧ decode .hermes 0o03672307#24 = .h0_11_6 (-3) 6 7 ∧
    decode .hermes 0o02772307#24 = .h0_10_7 (-3) 6 7 ∧ decode .hermes 0o03772307#24 = .h0_11_7 (-3) 6 7 := by decide

theorem test_decode_hermes_omitted :
    decode .hermes 0o05234567#24 = .h0_2x 0o1234567#19 ∧ decode .hermes 0o07234567#24 = .h0_3x 0o1234567#19 ∧
    decode .hermes 0o11234567#24 = .h1xx 0o1234567#21 ∧ decode .hermes 0o21234567#24 = .h2xx 0o1234567#21 ∧
    decode .hermes 0o31234567#24 = .h3xx 0o1234567#21 ∧ decode .hermes 0o41234567#24 = .h4xx 0o1234567#21 ∧
    decode .hermes 0o51234567#24 = .h5xx 0o1234567#21 ∧ decode .hermes 0o61234567#24 = .h6xx 0o1234567#21 ∧
    decode .hermes 0o71234567#24 = .h7xx 0o1234567#21 := by decide

theorem test_decode_argus_0f :
    decode .argus 0o00621401#24 = .a00 100 3 1 ∧ decode .argus 0o00621405#24 = .a01 100 3 1 ∧
    decode .argus 0o00621411#24 = .a02 100 3 1 ∧ decode .argus 0o00621415#24 = .a03 100 3 1 ∧
    decode .argus 0o00621421#24 = .a04 100 3 1 ∧ decode .argus 0o00621425#24 = .a05 100 3 1 ∧
    decode .argus 0o00621431#24 = .a06 100 3 1 ∧ decode .argus 0o00621435#24 = .a07 100 3 1 := by decide

theorem test_decode_argus_1f :
    decode .argus 0o00621441#24 = .a10 100 3 1 ∧ decode .argus 0o00621445#24 = .a11 100 3 1 ∧
    decode .argus 0o00621451#24 = .a12 100 3 1 ∧ decode .argus 0o00621455#24 = .a13 100 3 1 ∧
    decode .argus 0o00621461#24 = .a14 100 3 1 ∧ decode .argus 0o00621465#24 = .a15 100 3 1 ∧
    decode .argus 0o00621471#24 = .a16 100 3 1 ∧ decode .argus 0o00621475#24 = .a17 100 3 1 := by decide

theorem test_decode_argus_2f :
    decode .argus 0o00621501#24 = .a20 100 3 1 ∧ decode .argus 0o00621505#24 = .a21 100 3 1 ∧
    decode .argus 0o00621511#24 = .a22 100 3 1 ∧ decode .argus 0o00621515#24 = .a23 100 3 1 ∧
    decode .argus 0o00621521#24 = .a24 100 3 1 ∧ decode .argus 0o00621525#24 = .a25 100 3 1 ∧
    decode .argus 0o00621531#24 = .a26 100 3 1 ∧ decode .argus 0o00621535#24 = .a27 100 3 1 := by decide

theorem test_decode_argus_3f :
    decode .argus 0o00621541#24 = .a30 100 3 1 ∧ decode .argus 0o00621545#24 = .a31 100 3 1 ∧
    decode .argus 0o00621551#24 = .a32 100 3 1 ∧ decode .argus 0o00621555#24 = .a33 100 3 1 ∧
    decode .argus 0o00621561#24 = .a34 100 3 1 ∧ decode .argus 0o00621565#24 = .a35 100 3 1 ∧
    decode .argus 0o00621571#24 = .a36 100 3 1 ∧ decode .argus 0o00621575#24 = .a37 100 3 1 := by decide

theorem test_decode_argus_4f :
    decode .argus 0o00621601#24 = .a40 100 3 1 ∧ decode .argus 0o00621605#24 = .a41 100 3 1 ∧
    decode .argus 0o00621611#24 = .a42 100 3 1 ∧ decode .argus 0o00621615#24 = .a43 100 3 1 ∧
    decode .argus 0o00621621#24 = .a44 100 3 1 ∧ decode .argus 0o00621625#24 = .a45 100 3 1 ∧
    decode .argus 0o00621631#24 = .a46 100 3 1 ∧ decode .argus 0o00621635#24 = .a47 100 3 1 := by decide

theorem test_decode_argus_5f :
    decode .argus 0o00621641#24 = .a50 100 3 1 ∧ decode .argus 0o00621645#24 = .a51 100 3 1 ∧
    decode .argus 0o00621651#24 = .a52 100 3 1 ∧ decode .argus 0o00621655#24 = .a53 100 3 1 ∧
    decode .argus 0o00621661#24 = .a54 100 3 1 ∧ decode .argus 0o00621665#24 = .a55 100 3 1 ∧
    decode .argus 0o00621671#24 = .a56 100 3 1 ∧ decode .argus 0o00621675#24 = .a57 100 3 1 := by decide

theorem test_decode_argus_6f :
    decode .argus 0o00621701#24 = .a60 100 3 1 ∧ decode .argus 0o00621705#24 = .a61 100 3 1 ∧
    decode .argus 0o00621711#24 = .a62 100 3 1 ∧ decode .argus 0o00621715#24 = .a63 100 3 1 ∧
    decode .argus 0o00621721#24 = .a64 100 3 1 ∧ decode .argus 0o00621725#24 = .a65 100 3 1 ∧
    decode .argus 0o00621731#24 = .a66 100 3 1 ∧ decode .argus 0o00621735#24 = .a67 100 3 1 := by decide

theorem test_decode_argus_7f :
    decode .argus 0o00621741#24 = .a70 100 3 1 ∧ decode .argus 0o00621745#24 = .a71 100 3 1 ∧
    decode .argus 0o00621751#24 = .a72 100 3 1 ∧ decode .argus 0o00621755#24 = .a73 100 3 1 ∧
    decode .argus 0o00621761#24 = .a74 100 3 1 ∧ decode .argus 0o00621765#24 = .a75 100 3 1 ∧
    decode .argus 0o00621771#24 = .a76 100 3 1 ∧ decode .argus 0o00621775#24 = .a77 100 3 1 := by decide

/-- EV1 to EV16: the word decodes to the order, and the order encodes to the word. -/
theorem test_encoding_vectors :
    decode .poseidon 0o00012307#24 = .p000 5 6 7 ∧ encode (.p000 5 6 7) = 0o00012307#24 ∧
    decode .poseidon 0o02777777#24 = .p027 31 31 31 ∧ encode (.p027 31 31 31) = 0o02777777#24 ∧
    decode .poseidon 0o00000000#24 = .p000 0 0 0 ∧ encode (.p000 0 0 0) = 0o00000000#24 ∧
    decode .poseidon 0o05012302#24 = .p050 5 6 2 ∧ encode (.p050 5 6 2) = 0o05012302#24 ∧
    decode .hermes 0o02010246#24 = .h0_10_0 4 5 6 ∧ encode (.h0_10_0 4 5 6) = 0o02010246#24 ∧
    decode .hermes 0o00672246#24 = .h0_00_6 (-3) 5 6 ∧ encode (.h0_00_6 (-3) 5 6) = 0o00672246#24 ∧
    decode .hermes 0o03777777#24 = .h0_11_7 31 31 31 ∧ encode (.h0_11_7 31 31 31) = 0o03777777#24 ∧
    decode .hermes 0o00000000#24 = .h0_00_0 0 0 0 ∧ encode (.h0_00_0 0 0 0) = 0o00000000#24 ∧
    decode .argus 0o00621404#24 = .a01 100 3 0 ∧ encode (.a01 100 3 0) = 0o00621404#24 ∧
    decode .argus 0o77777777#24 = .a77 8191 7 3 ∧ encode (.a77 8191 7 3) = 0o77777777#24 ∧
    decode .argus 0o00000000#24 = .a00 0 0 0 ∧ encode (.a00 0 0 0) = 0o00000000#24 ∧
    decode .argus 0o77771640#24 = .a50 (-2) 3 0 ∧ encode (.a50 (-2) 3 0) = 0o77771640#24 ∧
    decode .argus 0o00311735#24 = .a67 50 3 1 ∧ encode (.a67 50 3 1) = 0o00311735#24 := by decide

theorem test_decode_table_word : decodeTableWord 24 0o00012307 = some (.p000 5 6 7) := by decide

theorem test_fetch_word_runs : (State.reset.withFetchWord 24 0o00012307).fetch .poseidon = .next 0o00012307#24 := by rfl

/-- R261: no word is an Apollo order, and an Apollo obeys none. -/
theorem test_apollo_is_refused :
    decodeBits .apollo 24 0o00012307 = .error .apolloNoData ∧
    refusalOf (step { onP 0o00012307 id with running := .apollo }) = some .apolloNoData := by decide

/-! ### Single steps of the Poseidon (PV vectors) -/

theorem test_pv1 : stepP 0o00012307 (r67 0x7FFFFF 1) (fun p => (p.r[5], p.crNeg, p.crZero, p.ovr, p.pc)) = some (0x800000, true, false, true, 11) := by decide

theorem test_pv4 : stepP 0o00012307 (fun p => { r67 0xFFFFFF 1 p with ovr := true }) (fun p => (p.r[5], p.crNeg, p.crZero, p.ovr)) = some (0, false, true, true) := by decide

theorem test_pv3 : stepP 0o00012247 (fun p => { p with r := (p.r.set 5 1).set 7 2 }) (fun p => p.r[5]) = some 3 := by decide

theorem test_pv5 : stepP 0o00112306 (r67 0x123456 0) (fun p => (p.r[5], p.crNeg, p.crZero)) = some (0, false, true) := by decide

theorem test_pv6 : stepP 0o00112307 (r67 0x800000 1) (fun p => (p.r[5], p.crNeg, p.crZero, p.ovr)) = some (0x7FFFFF, false, false, true) := by decide

theorem test_pv7 : stepP 0o00212306 (fun p => { r67 0x123456 0 p with ovr := true }) (fun p => (p.r[5], p.ovr, p.history.length)) = some (0, true, 1) := by decide

theorem test_pv8 : stepP 0o00312306 (r67 0x123456 0) (fun p => p.r[5]) = some 0xFFFFFF := by decide

theorem test_pv9 : stepP 0o00612307 (r67 0xFFFFFF 0x00F00F) (fun p => p.r[5]) = some 0x00F00F := by decide

theorem test_pv10 : stepP 0o00712307 (r67 0xFFFFFF 0x00F00F) (fun p => p.r[5]) = some 0xFF0FF0 := by decide

theorem test_pv11 : stepP 0o00412307 (r67 3 4) (fun p => (p.r[5], p.crNeg, p.crZero)) = some (7, false, false) := by decide

theorem test_pv13 : stepP 0o01012307 (fun p => { r67 1 1 p with n := 8191, q := p.q.set 10 true }) (fun p => (p.r[5], p.n, p.pc)) = some (2, 1, 11) := by decide

theorem test_pv12 : stepP 0o01012307 (fun p => { r67 1 1 p with n := 8191 }) (fun p => (p.r[5], p.n)) = some (2, 0) := by decide

theorem test_pv15 : stepP 0o01612307 (fun p => { r67 0xFF 0x0F p with n := 7 }) (fun p => (p.r[5], p.n)) = some (0x0F, 8) := by decide

theorem test_pv16 : stepP 0o02012307 (fun p => { r67 1 1 p with lambda := 8191, l := 300 }) (fun p => (p.r[5], p.n, p.lambda, p.pc)) = some (2, 1, 0, 300) := by decide

theorem test_pv17 : stepP 0o02012307 (fun p => { r67 1 1 p with lambda := 4095, l := 300 }) (fun p => (p.n, p.lambda, p.pc)) = some (1, 4096, 11) := by decide

theorem test_pv21 : stepP 0o03012307 (fun p => { r67 4 10 p with crNeg := true }) (fun p => (p.r[5], p.crNeg, p.crZero)) = some (0xFFFFFA, true, false) := by decide

theorem test_pv20 : stepP 0o03012307 (r67 10 4) (fun p => p.r[5]) = some 14 := by decide

theorem test_pv23 : stepP 0o03212307 (fun p => { r67 10 4 p with crNeg := true }) (fun p => (p.r[5], p.crNeg, p.crZero, p.pc)) = some (0, true, false, 11) := by decide

theorem test_pv22 : stepP 0o03212307 (r67 10 4) (fun p => p.r[5]) = some 14 := by decide

theorem test_pv24 : stepP 0o03412307 (fun p => { r67 10 4 p with crNeg := true }) (fun p => p.r[5]) = some 14 := by decide

theorem test_pv25 : stepP 0o03612307 (fun p => { r67 10 4 p with crNeg := true }) (fun p => (p.r[5], p.crNeg)) = some (0, true) := by decide

theorem test_pv26 : stepP 0o03612306 (r67 10 0) (fun p => (p.r[5], p.crZero)) = some (0, true) := by decide

theorem test_pv27 : stepP 0o04112307 (r67 10 4) (fun p => (p.r[5], p.mode, p.pc)) = some (6, .outer, 11) := by decide

theorem test_pv28 : stepP 0o05012102 (fun p => { p with n := 200, fps := [(200, 0o12#24)] }) (fun p => (p.r[5], p.pc)) = some (20, 11) := by decide

theorem test_pv29 : stepP 0o05112106 (fun p => { r67 3 0 p with n := 200, fps := [(200, 0o12#24)] }) (fun p => (p.r[5], p.pc)) = some (7, 11) := by decide

theorem test_pv30 : stepP 0o05612307 (r67 0xFF 0x0F) (fun p => (p.r[5], p.pc)) = some (0x0F, 0) := by decide

theorem test_pv32 : stepP 0o06112307 (fun p => { r67 10 4 p with n := 100, lambda := 8190, l := 40 }) (fun p => (p.r[5], p.n, p.lambda, p.pc)) = some (6, 100, 8191, 40) := by decide

theorem test_pv34 : stepP 0o07606307 (r67 0xFF 0x3C) (fun p => (p.punch, p.pc)) = some ([0o34], 11) := by decide

theorem test_pv33_no_register : stepP 0o07006143 id (fun p => (p.r[3], p.punch.length, p.history.length)) = some (0, 1, 2) := by decide

theorem test_pv31 : faultOf (step (onP 0o05012302 (fun p => { p with n := 5000 }))) = some .poseidonFpsOutside := by decide

theorem test_pv36 : refusalOf (step (onP 0o07406307 id)) = some .collateAtAddress3 := by decide

theorem test_pv37 : refusalOf (step (onP 0o07012307 id)) = some .poseidon07WNoAddress3 := by decide

theorem test_pv38 : refusalOf (step (onP 0o00006307 id)) = some .address3OutsideV7 := by decide

theorem test_pv39 : refusalOf (step (onP 0o00004307 id)) = some .address2AsDestination := by decide

theorem test_pv40 : refusalOf (step (onP 0o00012107 id)) = some .address2OutsideV5 := by decide

theorem test_pv42 : refusalOf (step (onP 0o03112307 id)) = some .poseidon03WOddNotListed := by decide

theorem test_pv43 : refusalOf (step (onP 0o10012307 id)) = some (.poseidonGroupOutlineOnly 1) := by decide

theorem test_pv44 : refusalOf (step (onP 0o00002307 id)) = some .addressNotPlain := by decide

theorem test_pv46 : refusalOf (step (onP 0o00012307 (fun p => { p with mode := .outer }))) = some .poseidonOuterMode := by decide

theorem test_outside_fps : faultOf (step (onP 0o00012307 (fun p => { p with pc := 4096 }))) = some .poseidonFetchOutside := by decide

/-! ### Single steps of the Hermes (HV vectors) -/

theorem test_hv1 : stepH 0o00010246 [(4, 100), (5, 2), (6, 0xfffffe)] 0 (fun h => h.pc) = some 21 := by decide

theorem test_hv4 : stepH 0o00010246 [(4, 8396900), (5, 2), (6, 1)] 0 (fun h => h.pc) = some 100 := by decide

theorem test_hv2 : stepH 0o00110246 [(4, 100), (5, 2), (6, 0xfffffe)] 0 (fun h => h.pc) = some 21 := by decide

theorem test_hv3 : stepH 0o00110246 [(4, 100), (5, 1), (6, 0xfffffe)] 0 (fun h => h.pc) = some 100 := by decide

theorem test_hv5 : stepH 0o01010277 [(4, 100), (5, 0xffffe1)] 0 (fun h => h.pc) = some 21 := by decide

theorem test_hv6 : stepH 0o01010277 [(4, 100), (5, 0xffffe2)] 0 (fun h => h.pc) = some 100 := by decide

theorem test_hv8 : stepH 0o00236246 [(5, 2), (6, 1)] 0 (fun h => h.pc) = some 35 := by decide

theorem test_hv9 : stepH 0o00240246 [(5, 2), (6, 1)] 0 (fun h => h.pc) = some 4 := by decide

theorem test_hv11 : stepH 0o00372246 [(5, 1), (6, 0xfffffe)] 0 (fun h => h.pc) = some 17 := by decide

theorem test_hv12 : stepH 0o00412246 [(5, 100), (6, 1)] 0 (fun h => (h.pc, Cells.read? h.v 5)) = some (100, some 101) := by decide

theorem test_hv14 : stepH 0o00410246 [(4, 100), (5, 2), (6, 0xfffffe)] 0 (fun h => (h.pc, Cells.read? h.v 5)) = some (21, some 0) := by decide

theorem test_hv15 : stepH 0o00510246 [(4, 100), (5, 1), (6, 0xfffffe)] 0 (fun h => (h.pc, Cells.read? h.v 5)) = some (100, some 0xFFFFFF) := by decide

theorem test_hv16 : stepH 0o00672246 [(5, 1), (6, 0xffffff)] 0 (fun h => (h.pc, Cells.read? h.v 5)) = some (21, some 0) := by decide

theorem test_hv17 : stepH 0o00672246 [(5, 2), (6, 0xffffff)] 0 (fun h => (h.pc, Cells.read? h.v 5)) = some (17, some 1) := by decide

theorem test_hv18 : stepH 0o01772241 [(5, 0xffffff)] 0 (fun h => (h.pc, Cells.read? h.v 5)) = some (21, some 0) := by decide

theorem test_hv22 : stepH 0o02010204 [(4, 21)] 0 (fun h => Cells.read? h.v 4) = some (some 42) := by decide

theorem test_hv23 : stepH 0o02010246 [(5, 8388608), (6, 8388607)] 0 (fun h => (Cells.read? h.v 4, h.pc)) = some (some 0xFFFFFF, 21) := by decide

theorem test_hv24 : stepH 0o03010240 [(5, 0)] 0 (fun h => Cells.read? h.v 4) = some (some 0) := by decide

theorem test_hv25 : stepH 0o02110246 [(4, 5), (5, 7), (6, 1)] 0 (fun h => (h.n1, Cells.read? h.v 5)) = some (5, some 8) := by decide

theorem test_hv27 : stepH 0o03176246 [(5, 7), (6, 1)] 8190 (fun h => (h.n1, Cells.read? h.v 29)) = some (8190, some 8) := by decide

theorem test_hv28 : stepH 0o03100246 [(5, 7), (6, 1)] 300 (fun h => (h.n1, Cells.read? h.v 300)) = some (300, some 8) := by decide

theorem test_hv29 : stepH 0o02210246 [(5, 300), (6, 2), (300, 40)] 0 (fun h => (h.n1, Cells.read? h.v 4)) = some (300, some 42) := by decide

theorem test_hv30 : stepH 0o02310246 [(5, 3), (6, 300), (300, 40)] 0 (fun h => (h.n1, Cells.read? h.v 4)) = some (300, some 43) := by decide

theorem test_hv31 : stepH 0o03210246 [(5, 3), (6, 4)] 999 (fun h => (h.n1, Cells.read? h.v 4)) = some (5, some 7) := by decide

theorem test_hv32 : stepH 0o03310246 [(5, 3), (6, 4)] 999 (fun h => (h.n1, Cells.read? h.v 4)) = some (6, some 7) := by decide

theorem test_hv33 : stepH 0o02610246 [(5, 3), (6, 4)] 8191 (fun h => (h.n1, Cells.read? h.v 4)) = some (0, some 7) := by decide

theorem test_hv34 : stepH 0o03710246 [(5, 3)] 0 (fun h => (h.n1, Cells.read? h.v 4)) = some (8191, some 9) := by decide

theorem test_hv10_at_20 : stepH 0o00252246 [(5, 2), (6, 1)] 0 (fun h => h.pc) = some 9 := by decide

/-- HV19 and HV20: a sum that does not fit is refused, and wraps with H_OVERFLOW = wrap. -/
theorem test_hv19 : refusalOf (step (onH 0o02010246 [(5, 0x7FFFFF), (6, 1)] 0 vectorConfig)) = some .hermesSumOverflows := by decide

theorem test_hv20 : after (step (onH 0o02010246 [(5, 0x7FFFFF), (6, 1)] 0 { vectorConfig with hOverflow := .wrap }))
    (fun t => Cells.read? t.h.v 4) = some (some 0x800000) := by decide

theorem test_hv26 : faultOf (step (onH 0o02110246 [(4, 5000), (5, 7), (6, 1)] 0 { vectorConfig with hStoreSize := 4096 })) =
    some .hermesStoreOutside := by decide

/-- HV5 and HV27 read with the signed extensions of R7: the literal 31 is -1, and N1 + 31 is N1 - 1. -/
theorem test_signed_literal :
    after (step (onH 0o01010277 [(4, 100), (5, 1)] 0 { vectorConfig with hCExt := .sign })) (fun t => t.h.pc) = some 21 := by decide

theorem test_signed_offset : after (step (onH 0o03176246 [(5, 7), (6, 1)] 30 { vectorConfig with hAoffExt := .sign }))
    (fun t => Cells.read? t.h.v 29) = some (some 8) := by decide

theorem test_hv35 : refusalOf (step (onH 0o02410246 [] 0 vectorConfig)) = some .hermesWaitNotDescribed := by decide

theorem test_hv36 : refusalOf (step (onH 0o03410246 [] 0 vectorConfig)) = some .hermesBlankCell := by decide

theorem test_hv39 : refusalOf (step (onH 0o04010246 [] 0 vectorConfig)) = some .hermesTableOmitted := by decide

theorem test_hv42 : refusalOf (step (onH 0o77777777 [] 0 vectorConfig)) = some .hermesTableOmitted := by decide

/-! ### Single steps of the Argus (AV vectors) -/

theorem test_av1 : stepA 0o00621404 (fun a => store [(100, 1)] (x3 0x7FFFFF a)) (fun a => (a.x[3], a.ovr, a.pc)) = some (0x800000, true, 21) := by decide

theorem test_av2 : stepA 0o00621404 (fun a => { store [(100, 1)] (x3 0xFFFFFF a) with ovr := true }) (fun a => (a.x[3], a.ovr)) = some (0, true) := by decide

theorem test_av3 : stepA 0o00621414 (fun a => store [(100, 1)] (x3 0x800000 a)) (fun a => (a.x[3], a.ovr)) = some (0x7FFFFF, true) := by decide

theorem test_av4 : stepA 0o00621420 (fun a => store [(100, 0)] (x3 0x800000 a)) (fun a => (a.x[3], a.ovr)) = some (0x800000, true) := by decide

theorem test_av5 : stepA 0o00621410 (fun a => store [(100, 8388608)] a) (fun a => (a.x[3], a.ovr)) = some (0x800000, true) := by decide

theorem test_av6 : stepA 0o00621410 (fun a => store [(100, 0)] a) (fun a => (a.x[3], a.ovr)) = some (0, false) := by decide

theorem test_av8 : stepA 0o00627000 (fun a => store [(100, 1), (101, 2)] a) (fun a => (a.q1, a.q2)) = some (1, 2) := by decide

theorem test_av10 : stepA 0o77775401 (fun a => { store [(1, 85)] a with mod := a.mod.set 0 2 }) (fun a => a.x[3]) = some 0x55 := by decide

theorem test_av12 : stepA 0o00627414 (fun a => store [(100, 0), (101, 1)] (x45 1 0 a)) (fun a => (a.x[4], a.x[5])) = some (0, 0xFFFFFF) := by decide

theorem test_av13 : stepA 0o00627404 (fun a => store [(100, 0), (101, 1)] (x45 0x7FFFFF 0xFFFFFF a)) (fun a => (a.x[4], a.x[5], a.ovr)) = some (0x800000, 0, true) := by decide

theorem test_and_05 : stepA 0o00621424 (fun a => store [(100, 986895)] (x3 0x00FFFF a)) (fun a => a.x[3]) = some 0x000F0F := by decide

theorem test_xor_06 : stepA 0o00621430 (fun a => store [(100, 986895)] (x3 0x00FFFF a)) (fun a => a.x[3]) = some 0x0FF0F0 := by decide

theorem test_av14 : stepA 0o00621444 (fun a => store [(100, 8388607)] (x3 1 a)) (fun a => (Cells.read? a.s 100, a.x[3], a.ovr)) = some (some 0x800000, 1, true) := by decide

theorem test_av15 : stepA 0o00621450 (x3 0x800000) (fun a => (Cells.read? a.s 100, a.ovr)) = some (some 0x800000, true) := by decide

theorem test_av16 : stepA 0o00627440 (x45 10 11) (fun a => (Cells.read? a.s 100, Cells.read? a.s 101)) = some (some 10, some 11) := by decide

theorem test_store_13 : stepA 0o00621454 (fun a => store [(100, 5)] (x3 7 a)) (fun a => Cells.read? a.s 100) = some (some 0xFFFFFE) := by decide

theorem test_store_14 : stepA 0o00621460 (fun a => store [(100, 5)] (x3 7 a)) (fun a => Cells.read? a.s 100) = some (some 2) := by decide

theorem test_store_15 : stepA 0o00621464 (fun a => store [(100, 986895)] (x3 0x00FFFF a)) (fun a => Cells.read? a.s 100) = some (some 0x000F0F) := by decide

theorem test_av17 : stepA 0o00621470 (fun a => store [(100, 986895)] (x3 0xFFFFFF a)) (fun a => Cells.read? a.s 100) = some (some 0xF0F0F0) := by decide

theorem test_av18 : stepA 0o77777600 id (fun a => (a.x[4], a.x[5])) = some (0, 0x1FFF) := by decide

theorem test_av19 : stepA 0o77775601 (fun a => { x3 9 a with mod := a.mod.set 0 1 }) (fun a => a.x[3]) = some 0 := by decide

theorem test_av21 : stepA 0o77775610 id (fun a => (a.x[3], a.ovr)) = some (0xFFE001, false) := by decide

theorem test_av22 : stepA 0o00005604 (x3 0x7FFFFF) (fun a => (a.x[3], a.ovr)) = some (0x800000, true) := by decide

theorem test_constant_43 : stepA 0o00005614 (x3 0) (fun a => (a.x[3], a.ovr)) = some (0xFFFFFF, false) := by decide

theorem test_av23 : stepA 0o00001620 (x3 0x800000) (fun a => (a.x[3], a.ovr)) = some (0x800000, true) := by decide

theorem test_av24 : stepA 0o77775624 (x3 0xFFFFFF) (fun a => a.x[3]) = some 0x1FFF := by decide

theorem test_av25 : stepA 0o77775630 (x3 0xFFFFFF) (fun a => a.x[3]) = some 0xFFE000 := by decide

theorem test_av33 : stepA 0o00621500 (fun a => store [(100, 8388608)] (x3 0x800000 a)) (fun a => (a.x[4], a.x[5], a.x[3])) = some (0x400000, 0, 0x800000) := by decide

theorem test_av34 : stepA 0o00622100 (fun a => store [(100, 5)] (x45 3 0 a)) (fun a => (a.x[4], a.x[5])) = some (0, 15) := by decide

theorem test_av37 : stepA 0o00627100 (fun a => { store [(100, 0), (101, 3)] a with q1 := 0xFFFFFF, q2 := 0xFFFFFE }) (fun a => (a.x[4], a.x[5], a.q1, a.q2)) = some (0xFFFFFF, 0xFFFFFF, 0xFFFFFF, 0xFFFFFA) := by decide

theorem test_av51 : stepA 0o00141640 (x3 1) (fun a => (a.x[3], a.ovr)) = some (0, true) := by decide

theorem test_av53 : stepA 0o77641640 (x3 0x800000) (fun a => (a.x[3], a.ovr)) = some (0xFFFFFF, false) := by decide

theorem test_av62 : stepA 0o00023640 (x45 0 0xF00000) (fun a => (a.x[4], a.x[5])) = some (15, 0) := by decide

theorem test_av64 : stepA 0o77641644 (x3 0xFFFFFF) (fun a => a.x[3]) = some 0 := by decide

theorem test_av65 : stepA 0o77777244 (fun a => { a with q1 := 1, q2 := 0 }) (fun a => (a.q1, a.q2)) = some (0, 0x800000) := by decide

theorem test_av66 : stepA 0o00006250 (x45 0x400000 0) (fun a => (a.x[4], a.x[5], a.ovr)) = some (0x800000, 0, true) := by decide

theorem test_av68 : stepA 0o77643650 (fun a => { x45 0x800000 1 a with q1 := 2, q2 := 3 }) (fun a => (a.x[4], a.x[5], a.q1, a.q2)) = some (0xFFFFFF, 0x800000, 1, 2) := by decide

theorem test_av69 : stepA 0o77643654 (fun a => { x45 0x800000 1 a with q1 := 2, q2 := 3 }) (fun a => (a.x[4], a.x[5], a.q1, a.q2)) = some (0, 0x800000, 1, 2) := by decide

theorem test_av72 : stepA 0o00001660 (x45 0xFFFFFF 0xFFFFFF) (fun a => (a.x[4], a.x[5], a.x[3])) = some (0x800000, 0, 47) := by decide

theorem test_av76 : stepA 0o00003260 (x45 0 3) (fun a => (a.x[4], a.x[5], a.q1, a.q2)) = some (0x600000, 0, 0, 45) := by decide

theorem test_av80 : stepA 0o00001264 (fun a => { x45 0xFFFFFF 0xFFFFFF a with q1 := 0xFFFFFF, q2 := 0xFFFFFE }) (fun a => (a.x[4], a.x[5], a.q1, a.q2, a.x[2])) = some (0x800000, 0, 0, 0, 94) := by decide

theorem test_av83 : stepA 0o00313700 id (fun a => a.pc) = some 50 := by decide

theorem test_av89 : stepA 0o00311700 (fun a => { x3 1 a with pc := 8191 }) (fun a => a.pc) = some 0 := by decide

theorem test_av87 : stepA 0o00311704 (x3 0x800000) (fun a => a.pc) = some 50 := by decide

theorem test_av86 : stepA 0o77775713 (fun a => { x3 0x7FFFFF a with mod := a.mod.set 2 8191 }) (fun a => a.pc) = some 8190 := by decide

theorem test_av84 : stepA 0o00313714 (x45 0x800000 0) (fun a => a.pc) = some 50 := by decide

theorem test_av85 : stepA 0o00312714 (x45 0x800000 0) (fun a => a.pc) = some 21 := by decide

theorem test_av90 : stepA 0o00312721 (fun a => { a with mod := a.mod.set 0 3 }) (fun a => (a.pc, a.ovr)) = some (53, false) := by decide

theorem test_overflow_65 : stepA 0o00311724 (fun a => { a with ovr := true }) (fun a => (a.pc, a.ovr)) = some (50, false) := by decide

theorem test_av91 : stepA 0o00311731 (fun a => { x3 1 a with mod := a.mod.set 0 8191 }) (fun a => (a.x[3], a.mod[0], a.pc)) = some (0xFFFFFF, 1, 50) := by decide

theorem test_av95 : stepA 0o00313734 (x45 0 1) (fun a => (a.x[4], a.x[5], a.pc)) = some (0, 0, 21) := by decide

theorem test_av97 : stepA 0o00311736 (fun a => { x3 5 a with mod := a.mod.set 1 100 }) (fun a => (a.x[3], a.mod[1], a.pc)) = some (4, 101, 50) := by decide

theorem test_av98 : stepA 0o00310341 (fun a => { a with mod := a.mod.set 0 4 }) (fun a => (a.link, a.pc)) = some (20, 54) := by decide

theorem test_av99 : stepA 0o00000344 (fun a => { a with link := 8191 }) (fun a => a.pc) = some 0 := by decide

theorem test_av101 : stepA 0o00466753 (fun a => { a with link := 33 }) (fun a => a.pc) = some 33 := by decide

theorem test_av104 : stepA 0o00756777 (fun a => { a with pc := 8191 }) (fun a => (a.halted, a.pc)) = some (true, 0) := by decide

theorem test_av26 : after (step (onA 0o00621404 narrowConfig fun a => store [(100, 1)] (x3 0x7FF a)))
    (fun t => (t.a.x[3], t.a.ovr)) = some (0x800, true) := by decide

theorem test_av28 : after (step (onA 0o77777600 narrowConfig id)) (fun t => (t.a.x[4], t.a.x[5])) = some (1, 0xFFF) := by decide

theorem test_av9 : refusalOf (step (onA 0o00003400 vectorConfig id)) = some .longOperandAtAddress0 := by decide

theorem test_av11 : faultOf (step (onA 0o10001400 { vectorConfig with aStoreSize := 1024 } id)) = some .argusStoreOutside := by decide

theorem test_av31 : refusalOf (step (onA 0o00621434 vectorConfig id)) = some (.argusUnassigned 0o07#6) := by decide

theorem test_av39 : refusalOf (step (onA 0o00623504 vectorConfig id)) = some (.argusRoundingNotDefined) := by decide

theorem test_av40 : refusalOf (step (onA 0o00623120 vectorConfig id)) = some (.argusDivisionNotDefined 0o24#6) := by decide

theorem test_av41 : refusalOf (step (onA 0o00621524 vectorConfig id)) = some (.argusDivisionNotDefined 0o25#6) := by decide

theorem test_av42 : refusalOf (step (onA 0o00623530 vectorConfig id)) = some (.argusDivisionNotDefined 0o26#6) := by decide

theorem test_av46 : refusalOf (step (onA 0o00024140 vectorConfig id)) = some (.argusInputNotPlaced) := by decide

theorem test_av49 : refusalOf (step (onA 0o00024154 vectorConfig id)) = some (.argusInstallationInput 0o33#6) := by decide

theorem test_av70 : refusalOf (step (onA 0o00006650 vectorConfig id)) = some (.argusShiftNeedsX4or7 0o52#6) := by decide

theorem test_av71 : refusalOf (step (onA 0o00007254 vectorConfig id)) = some (.argusShiftNeedsX4or7 0o53#6) := by decide

theorem test_av77 : refusalOf (step (onA 0o00001660 vectorConfig id)) = some (.argusNormaliseOfZero) := by decide

theorem test_av78 : refusalOf (step (onA 0o00002260 vectorConfig id)) = some (.argusCountOverlapsP) := by decide

theorem test_av79 : refusalOf (step (onA 0o00003264 vectorConfig id)) = some (.argusCountOverlapsPQ) := by decide

theorem test_av105 : refusalOf (step (onA 0o00000364 vectorConfig id)) = some (.argusUnassigned 0o75#6) := by decide

theorem test_halted_argus_stops : faultOf (step (onA 0o00000374 vectorConfig fun a => { a with halted := true })) = some .argusHalted := by decide

/-! ### Witnesses: the hypotheses of each statement hold together, clause by clause, at boundary values

`witness_<Name>` is about `Obligations.<Name>`; a statement without hypotheses has none. -/

/-- Every address but 2 and 3 is plain at reset, and the mode is Inner. -/
theorem witness_plain_fields : State.reset.p.mode = .inner ∧ PlainFields State.reset.cfg 0 31 4 := by decide

theorem witness_StepRunsTheDecodedOrder :
    ((onP 0o00012307 id).running = .poseidon ∧ (onP 0o00012307 id).p.pc.toNat < (onP 0o00012307 id).cfg.pFpsSize ∧
      Cells.read? (onP 0o00012307 id).p.fps (onP 0o00012307 id).p.pc.toNat = some 0o00012307#24) ∧
    ((onH 0o02010246 [] 0 vectorConfig).running = .hermes ∧
      (onH 0o02010246 [] 0 vectorConfig).h.pc < 2 ^ (onH 0o02010246 [] 0 vectorConfig).cfg.hAW ∧
      Cells.read? (onH 0o02010246 [] 0 vectorConfig).h.prog 20 = some 0o02010246#24) ∧
    ((onA 0o00621404 vectorConfig id).running = .argus ∧ (onA 0o00621404 vectorConfig id).a.halted = false ∧
      (onA 0o00621404 vectorConfig id).cfg.aInt = none ∧
      Cells.read? (onA 0o00621404 vectorConfig id).a.prog 20 = some 0o00621404#24) := by decide

theorem witness_StepStopsWhereNothingCanBeFetched :
    (let s := onP 0 fun p => { p with pc := 4096 }; s.running = .poseidon ∧ s.cfg.pFpsSize ≤ s.p.pc.toNat) ∧
    (let s := { onH 0 [] 0 vectorConfig with h := { HState.reset vectorConfig with pc := 8192 } };
      s.running = .hermes ∧ 2 ^ s.cfg.hAW ≤ s.h.pc) ∧
    (let s := { onP 0 id with p := { PState.reset vectorConfig with pc := 4095 } };
      s.running = .poseidon ∧ s.p.pc.toNat < s.cfg.pFpsSize ∧ Cells.read? s.p.fps s.p.pc.toNat = none) ∧
    (let s := { onH 0 [] 0 vectorConfig with h := { HState.reset vectorConfig with pc := 8191 } };
      s.running = .hermes ∧ s.h.pc < 2 ^ s.cfg.hAW ∧ Cells.read? s.h.prog s.h.pc = none) ∧
    (let s := { onA 0 vectorConfig id with a := AState.reset vectorConfig };
      s.running = .argus ∧ s.a.halted = false ∧ s.cfg.aInt = none ∧ Cells.read? s.a.prog s.a.pc.toNat = none) ∧
    ({ onP 0 id with running := .apollo } : State).running = .apollo := by decide

/-- A halted Argus, and a Poseidon that runs beside it. -/
def halted (w : Nat) : State := { onP w (r67 3 4) with a := { AState.reset vectorConfig with halted := true } }

theorem witness_HaltedIsSetBy77AndEndsTheRun :
    ((onA 0 vectorConfig id).a.halted = false ∧
      after (exec (.a77 0 0 0) (onA 0 vectorConfig id)) (fun t => t.a.halted) = some true) ∧
    (Completes (step (halted 0o00012307)) ∧ (halted 0o00012307).a.halted = true) ∧
    (({ halted 0 with running := .argus } : State).running = .argus ∧ ({ halted 0 with running := .argus } : State).a.halted = true) :=
  ⟨by decide, ⟨completes_of (by decide), by decide⟩, by decide⟩

/-- An Argus for which A_INT is supplied. -/
def interruptible : State := onA 0o00000344 { vectorConfig with aInt := some 100 } id

theorem witness_InterruptionBeforeAnOrder :
    interruptible.running = .argus ∧ interruptible.a.halted = false ∧ interruptible.cfg.aInt = some 100 := by decide

theorem witness_StepKeepsTheInvariant :
    (onA 0o00621404 vectorConfig (fun a => store [(100, 1)] (x3 0x7FFFFF a))).Inv ∧
    Completes (step (onA 0o00621404 vectorConfig (fun a => store [(100, 1)] (x3 0x7FFFFF a)))) :=
  ⟨by decide, completes_of (by decide)⟩

theorem witness_MachinesHaveDisjointState :
    Completes (exec (.p000 5 6 7) State.reset) ∧ Completes (exec (.h0_00_2 4 5 6) (onH 0 [(5, 2), (6, 1)] 0 vectorConfig)) ∧
    Completes (exec (.a40 5 3 0) State.reset) :=
  ⟨completes_of (by decide), completes_of (by decide), completes_of (by decide)⟩

theorem witness_OrdersReadOnlyTheirOwnMachine :
    State.reset.cfg = (State.reset.withA (x3 1 State.reset.a)).cfg ∧
    State.reset.p = (State.reset.withA (x3 1 State.reset.a)).p ∧ State.reset ≠ State.reset.withA (x3 1 State.reset.a) ∧
    Completes (exec (.p000 5 6 7) State.reset) ∧ refusalOf (exec (.p031 5 6 7) State.reset) = some .poseidon03WOddNotListed ∧
    faultOf (exec (.p050 5 2 6) (onP 0 fun p => { p with n := 4096 })) = some .poseidonFpsOutside :=
  ⟨by decide, by decide, by decide, completes_of (by decide), by decide, by decide⟩

theorem witness_ProgramsAndOuterRegistersNeverChange :
    Completes (step (onP 0o02012307 id)) ∧ Completes (step (onH 0o02110246 [(4, 5), (5, 7), (6, 1)] 0 vectorConfig)) ∧
    Completes (step (onA 0o00621440 vectorConfig id)) :=
  ⟨completes_of (by decide), completes_of (by decide), completes_of (by decide)⟩

theorem witness_RecordsOnlyGrow :
    Completes (step (onP 0o07606307 id)) ∧
    after (exec (.p076 3 6 7) State.reset) (fun t => decide (t.p.punch ≠ State.reset.p.punch)) = some true :=
  ⟨completes_of (by decide), by decide⟩

theorem witness_OverflowIndicatorsAreKept :
    after (exec (.p000 5 6 7) (onP 0 fun p => { p with ovr := true })) (fun t => t.p.ovr) = some true ∧
    (onA 0 vectorConfig fun a => { a with ovr := true }).a.ovr = true ∧
    after (exec (.a64 50 5 1) (onA 0 vectorConfig fun a => { a with ovr := true })) (fun t => t.a.ovr) = some false := by decide

theorem witness_OnlyNamedOrdersWriteTheAddressRegisters :
    after (exec (.a70 50 0 0) (onA 0 vectorConfig id)) (fun t => t.a.link) = some 20 ∧
    after (exec (.a67 50 3 1) State.reset) (fun t => t.a.mod[0]) = some 1 ∧
    after (exec (.h0_10_1 4 5 6) (onH 0 [(4, 8), (5, 2), (6, 1)] 0 vectorConfig)) (fun t => t.h.n1) = some 8 ∧
    after (exec (.p010 5 6 7) State.reset) (fun t => t.p.n) = some 1 ∧
    after (exec (.p060 5 6 7) State.reset) (fun t => t.p.lambda) = some 1 ∧
    after (exec (.p040 5 6 7) State.reset) (fun t => t.p.mode) = some .outer := by decide

theorem witness_OuterModeIsRefusedForGood :
    (Instr.machine (.p000 5 6 7) = .poseidon ∧ (onP 0o00012307 fun p => { p with mode := .outer }).p.mode = .outer) ∧
    (onP 0o00012307 fun p => { p with mode := .outer }).fetch .poseidon = .next 0o00012307#24 ∧
    (State.reset.p.mode = .inner ∧ after (exec (.p047 5 6 7) State.reset) (fun t => t.p.mode) = some .outer) ∧
    Completes (step { onA 0o00000344 vectorConfig id with p := { PState.reset vectorConfig with mode := .outer } }) :=
  ⟨by decide, by rfl, by decide, completes_of (by decide)⟩

theorem witness_IllFormedOrdersAreRefused : ¬Instr.WellFormed (.p074 3 6 7) ∧ ¬Instr.WellFormed (.a55 0 4 0) := by decide

theorem witness_PoseidonOrdersWithoutMeaning :
    State.reset.p.mode = .inner ∧ ¬((4#5 : Field5) = 3#5 ∨ (2#5 : Field5) = 3#5 ∨ (31#5 : Field5) = 3#5) ∧
    ((5#5 : Field5) = 3#5 ∨ (6#5 : Field5) = 3#5 ∨ (3#5 : Field5) = 3#5) := by decide

theorem witness_ArgusOrdersWithoutConfiguration :
    State.reset.cfg.aMulRound = false ∧ State.reset.cfg.aDiv = false ∧ State.reset.cfg.aIoReg = none := by decide

theorem witness_WordFunctionsAreTheSpecs : (0xFFFFFF : Nat) < 2 ^ 24 ∧ (0 : Nat) < 2 ^ 0 := by decide

theorem witness_OverflowIsAWrongSignedResult : 1 ≤ 1 ∧ 1 < 2 ^ 1 ∧ 1 ≤ 24 ∧ 0x800000 < 2 ^ 24 ∧ 0x7FFFFF < 2 ^ 24 := by decide

theorem witness_PoseidonFunctionOrders : State.reset.p.mode = .inner ∧ PlainFields State.reset.cfg 5 5 7 := by decide

theorem witness_PoseidonCountingOrders : (onP 0 id).p.mode = .inner ∧ PlainFields (onP 0 id).cfg 4 31 31 := by decide

theorem witness_PoseidonCounts :
    Completes (exec (.p010 5 6 7) (onP 0 fun p => { p with n := 8191, q := p.q.set 10 true })) ∧
    Completes (exec (.p027 5 6 7) (onP 0 fun p => { p with lambda := 4096 })) ∧
    Completes (exec (.p060 5 6 7) (onP 0 fun p => { p with lambda := 4095, pc := 8191 })) :=
  ⟨completes_of (by decide), completes_of (by decide), completes_of (by decide)⟩

theorem witness_PoseidonConditionalOrders :
    ((onP 0 fun p => { p with crNeg := true }).p.mode = .inner ∧ PlainFields (onP 0 id).cfg 5 6 7) ∧
    ((onP 0 id).p.crNeg = false ∧ (onP 0 fun p => { p with crNeg := true }).p.crNeg = true) := by decide

theorem witness_PoseidonFastJump : (onP 0 id).p.mode = .inner ∧ PlainFields (onP 0 id).cfg 5 6 6 := by decide

theorem witness_PoseidonFastRead :
    (onP 0 id).p.mode = .inner ∧ ((5#5 : Field5) ≠ 2#5 ∧ (5#5 : Field5) ≠ 3#5 ∧ isPlain vectorConfig 5#5 = true) ∧
    ((2#5 : Field5) = 2#5 ∨ (2#5 : Field5) ≠ 3#5 ∧ isPlain vectorConfig 2#5 = true) ∧
    ((6#5 : Field5) = 2#5 ∨ (6#5 : Field5) ≠ 3#5 ∧ isPlain vectorConfig 6#5 = true) ∧
    ((2#5 : Field5) = 2#5 ∨ (6#5 : Field5) = 2#5) ∧
    (vectorConfig.pW = 24 ∧ (4095#13).toNat < vectorConfig.pFpsSize ∧ vectorConfig.pFpsSize ≤ (4096#13).toNat) ∧
    ({ vectorConfig with pW := 25 } : Config).pW ≠ 24 := by decide

theorem witness_PoseidonDeviceOrders :
    (onP 0 id).p.mode = .inner ∧ ((3#5 : Field5) = 3#5 ∨ (5#5 : Field5) = 3#5 ∨ (4#5 : Field5) = 3#5) ∧
    ((3#5 : Field5) = 3#5 ∨ (3#5 : Field5) ≠ 2#5 ∧ isPlain vectorConfig 3#5 = true) ∧
    ((5#5 : Field5) = 3#5 ∨ (5#5 : Field5) ≠ 2#5 ∧ isPlain vectorConfig 5#5 = true) ∧
    ((4#5 : Field5) = 3#5 ∨ (4#5 : Field5) ≠ 2#5 ∧ isPlain vectorConfig 4#5 = true) := by decide

theorem witness_TapeCharacterDigits :
    (5 ≤ ({ vectorConfig with pW := 5 } : Config).pW ∧ ({ vectorConfig with pW := 5 } : Config).pDigit0Lsb = true) ∧
    ({ vectorConfig with pW := 5, pDigit0Lsb := false } : Config).pDigit0Lsb = false := by decide

/-- The fields of each clause of R143, in its order: (A, B, C) with the clause's conditions. -/
theorem witness_PoseidonAddressTests :
    (onP 0 id).p.mode = .inner ∧
    ((3#5 : Field5) = 3#5 ∨ (2#5 : Field5) = 3#5 ∨ (0#5 : Field5) = 3#5) ∧
    ¬((2#5 : Field5) = 3#5 ∨ (2#5 : Field5) = 3#5 ∨ (0#5 : Field5) = 3#5) ∧
    (¬((4#5 : Field5) = 3#5 ∨ (2#5 : Field5) = 3#5 ∨ (0#5 : Field5) = 3#5) ∧ (4#5 : Field5) ≠ 2#5 ∧
      ((2#5 : Field5) = 2#5 ∨ (0#5 : Field5) = 2#5)) ∧
    (((3#5 : Field5) = 3#5 ∨ (2#5 : Field5) = 3#5 ∨ (4#5 : Field5) = 3#5) ∧ (3#5 : Field5) ≠ 2#5 ∧
      ((2#5 : Field5) = 2#5 ∨ (4#5 : Field5) = 2#5)) ∧
    (((4#5 : Field5) = 3#5 ∨ (3#5 : Field5) = 3#5 ∨ (1#5 : Field5) = 3#5) ∧ (4#5 : Field5) ≠ 2#5 ∧
      ¬((3#5 : Field5) = 2#5 ∨ (1#5 : Field5) = 2#5)) ∧
    ¬(plainOrSpecial vectorConfig 4#5 = true ∧ plainOrSpecial vectorConfig 3#5 = true ∧ plainOrSpecial vectorConfig 1#5 = true) ∧
    ¬(plainOrSpecial vectorConfig 4#5 = true ∧ plainOrSpecial vectorConfig 31#5 = true ∧ plainOrSpecial vectorConfig 0#5 = true) := by
  decide

/-- The greatest and the least sum that fits 24 bits, and the sums next to them that do not. -/
theorem witness_HermesSum :
    1 ≤ vectorConfig.hW ∧ sval 24 0x7FFFFE + sval 24 1 = 2 ^ 23 - 1 ∧ sval 24 0x7FFFFF + sval 24 1 = 2 ^ 23 ∧
    sval 24 0x800001 + sval 24 0xFFFFFF = -2 ^ 23 ∧ sval 24 0x800000 + sval 24 0xFFFFFF = -2 ^ 23 - 1 ∧
    vectorConfig.hOverflow = .refuse ∧ ({ vectorConfig with hOverflow := .wrap } : Config).hOverflow = .wrap := by decide

/-- The smallest V store, with V[4], V[5], N1 as given and V[6] = 1. -/
def smallH (va vb n1 : Nat) : State := onH 0 [(4, va), (5, vb), (6, 1)] n1 { vectorConfig with hStoreSize := 32 }

theorem witness_HermesTestingJumps :
    (let s := smallH 31 0x7FFFFE 0;
      32 ≤ s.cfg.hStoreSize ∧ SumAllowed s.cfg (trueSum s.cfg (s.h.word s.cfg 1 5) (s.h.thirdWord s.cfg .store 6))) ∧
    (let s := smallH 31 0x7FFFFF 0;
      32 ≤ s.cfg.hStoreSize ∧ SumRefused s.cfg (trueSum s.cfg (s.h.word s.cfg 1 5) (s.h.thirdWord s.cfg .literal 1))) := by
  decide

theorem witness_HermesStoringJumps :
    (let s := smallH 31 0x7FFFFE 0;
      32 ≤ s.cfg.hStoreSize ∧ SumAllowed s.cfg (trueSum s.cfg (s.h.word s.cfg 1 5) (s.h.thirdWord s.cfg .literal 1))) ∧
    (let s := smallH 31 0x7FFFFF 0;
      32 ≤ s.cfg.hStoreSize ∧ SumRefused s.cfg (trueSum s.cfg (s.h.word s.cfg 1 5) (s.h.thirdWord s.cfg .store 6))) := by
  decide

theorem witness_HermesSums :
    (let s := smallH 31 0x800000 0;
      32 ≤ s.cfg.hStoreSize ∧ SumAllowed s.cfg (trueSum s.cfg (s.h.word s.cfg 1 5) (s.h.thirdWord s.cfg .literal 31))) ∧
    (let s := smallH 31 0x7FFFFF 0;
      32 ≤ s.cfg.hStoreSize ∧ SumRefused s.cfg (trueSum s.cfg (s.h.word s.cfg 1 5) (s.h.thirdWord s.cfg .store 4))) := by
  decide

/-- VA = 31 and N1 + A = 31 are the last address of the store; 32 is the first outside it. -/
theorem witness_HermesStoresThroughN1 :
    (let s := smallH 31 7 0;
      32 ≤ s.cfg.hStoreSize ∧ SumAllowed s.cfg (trueSum s.cfg (s.h.word s.cfg 1 5) (s.h.word s.cfg 2 6)) ∧
      (s.h.word s.cfg 0 4).val % 2 ^ s.cfg.hAW < s.cfg.hStoreSize ∧
      (s.h.n1 + extend5 s.cfg.hAoffExt s.cfg.hAW 31) % 2 ^ s.cfg.hAW < s.cfg.hStoreSize) ∧
    (let s := smallH 32 7 1;
      32 ≤ s.cfg.hStoreSize ∧ SumAllowed s.cfg (trueSum s.cfg (s.h.word s.cfg 1 5) (s.h.word s.cfg 2 6)) ∧
      s.cfg.hStoreSize ≤ (s.h.word s.cfg 0 4).val % 2 ^ s.cfg.hAW ∧
      s.cfg.hStoreSize ≤ (s.h.n1 + extend5 s.cfg.hAoffExt s.cfg.hAW 31) % 2 ^ s.cfg.hAW) ∧
    (let s := smallH 31 0x7FFFFF 0;
      32 ≤ s.cfg.hStoreSize ∧ SumRefused s.cfg (trueSum s.cfg (s.h.word s.cfg 1 5) (s.h.word s.cfg 2 6))) := by decide

/-- V[5] = 5 and V[6] = 1 name words of the store; V[4] = 32 names the first address outside it; V[4] = 5 names a word that is
too large to add to itself. -/
theorem witness_HermesLoadsThroughN1 :
    (let s := smallH 32 5 0;
      32 ≤ s.cfg.hStoreSize ∧ (s.h.word s.cfg 1 5).val % 2 ^ s.cfg.hAW < s.cfg.hStoreSize ∧
      SumAllowed s.cfg (trueSum s.cfg (s.h.word s.cfg 3 5) (s.h.word s.cfg 2 6)) ∧
      s.cfg.hStoreSize ≤ (s.h.word s.cfg 1 4).val % 2 ^ s.cfg.hAW ∧ s.cfg.hStoreSize ≤ (s.h.word s.cfg 2 4).val % 2 ^ s.cfg.hAW) ∧
    (let s := smallH 5 0x7FFFFF 0;
      32 ≤ s.cfg.hStoreSize ∧ (s.h.word s.cfg 1 4).val % 2 ^ s.cfg.hAW < s.cfg.hStoreSize ∧
      SumRefused s.cfg (trueSum s.cfg (s.h.word s.cfg 3 5) (s.h.word s.cfg 2 6)) ∧
      (s.h.word s.cfg 2 4).val % 2 ^ s.cfg.hAW < s.cfg.hStoreSize ∧
      SumRefused s.cfg (trueSum s.cfg (s.h.word s.cfg 1 6) (s.h.word s.cfg 3 5))) ∧
    (let s := smallH 5 4 0;
      32 ≤ s.cfg.hStoreSize ∧ (s.h.word s.cfg 2 4).val % 2 ^ s.cfg.hAW < s.cfg.hStoreSize ∧
      SumAllowed s.cfg (trueSum s.cfg (s.h.word s.cfg 1 6) (s.h.word s.cfg 3 5))) := by decide

theorem witness_HermesStoreFrame :
    Completes (exec (.h0_01_3 4 5 6) (smallH 31 7 0)) ∧ Completes (exec (.h0_00_4 4 5 6) (smallH 31 7 0)) ∧
    Completes (exec (.h0_10_2 4 5 6) (smallH 31 5 0)) ∧ Completes (exec (.h0_10_1 4 5 6) (smallH 31 7 0)) ∧
    Completes (exec (.h0_11_1 31 5 6) (smallH 31 7 0)) :=
  ⟨completes_of (by decide), completes_of (by decide), completes_of (by decide), completes_of (by decide),
    completes_of (by decide)⟩

/-- The narrowest Hermes, with both extensions and both bases; 15 is the greatest field that is not negative, 16 the least. -/
theorem witness_HermesFieldsAsNumbers :
    (let c := { vectorConfig with hW := 5, hAW := 5, hStoreSize := 32 };
      5 ≤ c.hW ∧ 5 ≤ c.hAW ∧ c.hCExt = .zero ∧ c.hAoffExt = .zero ∧ c.hRelBase = .self) ∧
    (let c := { vectorConfig with hW := 5, hAW := 5, hStoreSize := 32, hCExt := .sign, hAoffExt := .sign, hRelBase := .next };
      5 ≤ c.hW ∧ 5 ≤ c.hAW ∧ c.hCExt = .sign ∧ c.hAoffExt = .sign ∧ c.hRelBase = .next) ∧
    (15#5).toNat < 16 ∧ ¬(16#5).toNat < 16 := by decide

theorem witness_ArgusModifiersAndConstants :
    vectorConfig.aModMap = ModifierMap.standard ∧ vectorConfig.aConstExt = .zero ∧
    ({ vectorConfig with aConstExt := .sign } : Config).aModMap = ModifierMap.standard ∧
    ({ vectorConfig with aConstExt := .sign } : Config).aConstExt = .sign ∧ (4095#13).toNat < 4096 ∧ ¬(4096#13).toNat < 4096 := by
  decide

theorem witness_ArgusAccumulators :
    (x45 1 0xFFFFFF (AState.reset vectorConfig)).wf vectorConfig ∧ vectorConfig.aLongOrder = .firstNamed ∧
    0xFFFFFFFFFFFF < 2 ^ accWidth vectorConfig 7 ∧ 2 ^ 96 - 1 < 2 ^ (4 * vectorConfig.aW) := by decide

theorem witness_ArgusLongOperands :
    vectorConfig.aLongOrder = .firstNamed ∧ isLong 5 = false ∧ isLong 6 = true ∧ (1 : Addr13) ≠ 0 ∧
    Cells.read? (store [(0, 3), (1, 4)] (AState.reset vectorConfig)).s ((1 : Addr13).toNat - 1) = some 3 ∧
    Cells.read? (store [(0, 3), (1, 4)] (AState.reset vectorConfig)).s (1 : Addr13).toNat = some 4 := by decide

/-- A short operand at the first address and a long one at the last. -/
theorem witness_operand_allowed :
    OperandAllowed vectorConfig 5 ((AState.reset vectorConfig).effectiveN vectorConfig 0 0) ∧
    OperandAllowed vectorConfig 6 ((AState.reset vectorConfig).effectiveN vectorConfig 8191 1) := by decide

theorem witness_ArgusLoadsAndSums :
    OperandAllowed (onA 0 vectorConfig id).cfg 7 ((onA 0 vectorConfig id).a.effectiveN (onA 0 vectorConfig id).cfg 1 0) := by decide

theorem witness_ArgusStores :
    OperandAllowed (onA 0 vectorConfig id).cfg 0 ((onA 0 vectorConfig id).a.effectiveN (onA 0 vectorConfig id).cfg 0 3) := by decide

/-- A configuration that supplies every parameter that may be absent. -/
def suppliedConfig : Config :=
  { vectorConfig with aMul := .supplied, aMulRound := true, aDiv := true, aStoreSize := 1024
                      aIoReg := some ⟨.accumulator 2, .shortAddress 1023⟩ }

theorem witness_ArgusOperandsThatAreNotThere :
    (isLong 7 = true ∧ (AState.reset vectorConfig).effectiveN vectorConfig 0 0 = 0) ∧
    (¬(isLong 6 = true ∧ (AState.reset vectorConfig).effectiveN vectorConfig 1024 0 = 0) ∧
      suppliedConfig.aStoreSize ≤ ((AState.reset vectorConfig).effectiveN vectorConfig 1024 0).toNat) ∧
    (suppliedConfig.aMulRound = true ∧ suppliedConfig.aDiv = true) := by
  decide

theorem witness_ArgusMultiplication :
    (vectorConfig.aMul = .integer ∧ OperandAllowed vectorConfig 6 ((AState.reset vectorConfig).effectiveN vectorConfig 101 0)) ∧
    (1 ≤ 24 ∧ 0x800000 < 2 ^ 24) := by decide

theorem witness_SuppliedProductsAndQuotients :
    OperandAllowed suppliedConfig 6 ((AState.reset suppliedConfig).effectiveN suppliedConfig 1023 0) ∧
    suppliedConfig.aMul = .supplied ∧ suppliedConfig.aMulRound = true ∧ suppliedConfig.aDiv = true ∧
    isLong 5 = false ∧ isLong 6 = true := by decide

theorem witness_ArgusInput :
    (suppliedConfig.aIoReg = some ⟨.accumulator 2, .shortAddress 1023⟩ ∧ (1023 : Addr13).toNat < suppliedConfig.aStoreSize) ∧
    ({ suppliedConfig with aIoReg := some ⟨.ownCell, .shortAddress 1024⟩ } : Config).aIoReg = some ⟨.ownCell, .shortAddress 1024⟩ ∧
    suppliedConfig.aStoreSize ≤ (1024 : Addr13).toNat := by decide

theorem witness_ArgusShifts : (5 : BitVec 3) ≠ 4#3 ∧ (5 : BitVec 3) ≠ 7#3 := by decide

theorem witness_ShiftedValues : (1 ≤ 1 ∧ 1 < 2 ^ 1 ∧ 1 ≤ 1) ∧ (1 ≤ 24 ∧ 0x800000 < 2 ^ 24 ∧ 24 ≤ 24) := by decide

theorem witness_ArgusNormalising :
    ((6 : BitVec 3) ≠ 4#3 ∧ (6 : BitVec 3) ≠ 5#3 ∧ (6 : BitVec 3) ≠ 7#3 ∧ (x45 0 1 (AState.reset vectorConfig)).pval vectorConfig ≠ 0) ∧
    (AState.reset vectorConfig).pval vectorConfig = 0 ∧ (3 : BitVec 3).toNat ≤ 3 ∧ 4 ≤ (4 : BitVec 3).toNat ∧
    (x45 0 1 (AState.reset vectorConfig)).pqval vectorConfig ≠ 0 ∧ (AState.reset vectorConfig).pqval vectorConfig = 0 := by decide

theorem witness_NormalisedValues :
    (2 ≤ 2 ∧ 1 ≠ 0 ∧ 1 < 2 ^ 2) ∧ (2 ≤ 48 ∧ 2 ^ 48 - 1 ≠ 0 ∧ 2 ^ 48 - 1 < 2 ^ 48) ∧ (3 : BitVec 3).toNat ≤ 3 ∧
    (AState.reset vectorConfig).pval vectorConfig = 0 ∧ (AState.reset vectorConfig).pqval vectorConfig = 0 := by decide

theorem witness_ArgusCountingJumps : 1 ≤ vectorConfig.aW := by decide

theorem witness_ArgusStoreFrame :
    Completes (exec (.a11 100 7 0) (onA 0 vectorConfig (store [(99, 1), (100, 2)]))) ∧
    Completes (exec (.a32 5 0 0) (onA 0 suppliedConfig id)) ∧ Completes (exec (.a01 100 3 0) (onA 0 vectorConfig id)) :=
  ⟨completes_of (by decide), completes_of (by decide), completes_of (by decide)⟩


end Sys2Proof.Tests
end

section
/-! PROOFS. An order is an operation of its own machine (spec/00_scope.md R19): what it leaves alone, and what its outcome depends on. -/

namespace Sys2Proof.Machine

/-! ### Stops of a lifted operation -/

/-- A result whose value is only wrapped stops exactly where it stopped. -/
theorem Result.andThen_next_eq_fault {α β : Type} {r : Result α} {g : α → β} {e : Fault} :
    Result.andThen r (fun x => .next (g x)) = .fault e ↔ r = .fault e := by
  cases r <;> simp

theorem Result.andThen_next_eq_refused {α β : Type} {r : Result α} {g : α → β} {e : Refusal} :
    Result.andThen r (fun x => .next (g x)) = .refused e ↔ r = .refused e := by
  cases r <;> simp

theorem State.onPoseidon_eq_fault {f : Config → PState → Result PState} {s : State} {e : Fault} :
    s.onPoseidon f = .fault e ↔ f s.cfg s.p = .fault e := Result.andThen_next_eq_fault

theorem State.onPoseidon_eq_refused {f : Config → PState → Result PState} {s : State} {e : Refusal} :
    s.onPoseidon f = .refused e ↔ f s.cfg s.p = .refused e := Result.andThen_next_eq_refused

theorem State.onHermes_eq_fault {f : Config → HState → Result HState} {s : State} {e : Fault} :
    s.onHermes f = .fault e ↔ f s.cfg s.h = .fault e := Result.andThen_next_eq_fault

theorem State.onHermes_eq_refused {f : Config → HState → Result HState} {s : State} {e : Refusal} :
    s.onHermes f = .refused e ↔ f s.cfg s.h = .refused e := Result.andThen_next_eq_refused

theorem State.onArgus_eq_fault {f : Config → AState → Result AState} {s : State} {e : Fault} :
    s.onArgus f = .fault e ↔ f s.cfg s.a = .fault e := Result.andThen_next_eq_fault

theorem State.onArgus_eq_refused {f : Config → AState → Result AState} {s : State} {e : Refusal} :
    s.onArgus f = .refused e ↔ f s.cfg s.a = .refused e := Result.andThen_next_eq_refused

/-! ### Every order acts on its own machine -/

/-- `g` is an operation `f` of one machine under the configuration, lifted to the whole state: it reads and writes nothing else. -/
inductive ActsOn : MachineId → (State → Result State) → Prop where
  | poseidon {g : State → Result State} (f : Config → PState → Result PState) (h : ∀ s, g s = s.onPoseidon f) :
      ActsOn .poseidon g
  | hermes {g : State → Result State} (f : Config → HState → Result HState) (h : ∀ s, g s = s.onHermes f) : ActsOn .hermes g
  | argus {g : State → Result State} (f : Config → AState → Result AState) (h : ∀ s, g s = s.onArgus f) : ActsOn .argus g

/-- The choice of a V = 3 order reads the Poseidon's own C.R. -/
theorem actsOn_poseidonConditional (collate : Bool) (nonNegative negative : Option PFunction) (a b c : Field5) :
    ActsOn .poseidon (poseidonConditional collate nonNegative negative a b c) :=
  .poseidon (fun cfg p => PState.obey .conditional collate (if p.crNeg then negative else nonNegative) a b c cfg p) fun _ => rfl

/-- The test for Outer mode before a refusal reads the Poseidon's own mode. -/
theorem actsOn_poseidonRefused (e : Refusal) : ActsOn .poseidon (poseidonRefused e) :=
  .poseidon (fun _ p => if p.mode = .outer then .refused .poseidonOuterMode else .refused e) fun s => by
    cases hm : s.p.mode <;> simp [poseidonRefused, State.onPoseidon, hm]

/-- Every order is an operation of the machine it belongs to. -/
theorem actsOn_exec (i : Instr) : ActsOn i.machine (exec i) := by
  cases i with
  | p000 | p001 | p002 | p003 | p004 | p005 | p006 | p007 | p010 | p011 | p012 | p013 | p014 | p015 | p016 | p017
  | p020 | p021 | p022 | p023 | p024 | p025 | p026 | p027 | p040 | p041 | p042 | p043 | p044 | p045 | p046 | p047
  | p050 | p051 | p052 | p053 | p054 | p055 | p056 | p057 | p060 | p061 | p062 | p063 | p064 | p065 | p066 | p067
  | p070 | p071 | p072 | p073 | p074 | p075 | p076 | p077 => exact .poseidon _ fun _ => rfl
  | p030 | p032 | p034 | p036 => exact actsOn_poseidonConditional _ _ _ _ _ _
  | p031 | p033 | p035 | p037 | p1xx | p2xx | p3xx | p4xx | p5xx | p6xx | p7xx => exact actsOn_poseidonRefused _
  | h0_00_0 | h0_01_0 | h0_00_1 | h0_01_1 | h0_00_2 | h0_01_2 | h0_00_3 | h0_01_3 | h0_00_4 | h0_01_4 | h0_00_5 | h0_01_5
  | h0_00_6 | h0_01_6 | h0_00_7 | h0_01_7 | h0_10_0 | h0_11_0 | h0_10_1 | h0_11_1 | h0_10_2 | h0_11_2 | h0_10_3 | h0_11_3
  | h0_10_6 | h0_11_6 | h0_10_7 | h0_11_7 => exact .hermes _ fun _ => rfl
  | h0_10_4 | h0_11_4 | h0_10_5 | h0_11_5 | h0_2x | h0_3x | h1xx | h2xx | h3xx | h4xx | h5xx | h6xx | h7xx =>
    exact .hermes (fun _ _ => .refused _) fun _ => rfl
  | a00 | a01 | a02 | a03 | a04 | a05 | a06 | a10 | a11 | a12 | a13 | a14 | a15 | a16 | a20 | a21 | a24 | a25 | a26
  | a30 | a31 | a32 | a40 | a41 | a42 | a43 | a44 | a45 | a46 | a50 | a51 | a52 | a53 | a54 | a55
  | a60 | a61 | a62 | a63 | a64 | a65 | a66 | a67 | a70 | a71 | a72 | a73 | a74 | a77 =>
    exact .argus _ fun _ => by unfold exec; exact rfl
  | a07 | a17 | a22 | a23 | a27 | a33 | a34 | a35 | a36 | a37 | a47 | a56 | a57 | a75 | a76 =>
    exact .argus (fun _ _ => .refused _) fun _ => rfl

/-! ### What acting on one machine means -/

/-- A next state differs in the machine acted on alone. -/
theorem ActsOn.frame {m : MachineId} {g : State → Result State} (hg : ActsOn m g) {s t : State} (ht : g s = .next t) :
    t.cfg = s.cfg ∧ t.running = s.running ∧ (m ≠ .poseidon → t.p = s.p) ∧ (m ≠ .hermes → t.h = s.h) ∧
      (m ≠ .argus → t.a = s.a) := by
  cases hg with
  | poseidon f h =>
    obtain ⟨p, -, rfl⟩ := State.onPoseidon_eq_next.1 ((h s).symm.trans ht)
    simp
  | hermes f h =>
    obtain ⟨h', -, rfl⟩ := State.onHermes_eq_next.1 ((h s).symm.trans ht)
    simp
  | argus f h =>
    obtain ⟨a, -, rfl⟩ := State.onArgus_eq_next.1 ((h s).symm.trans ht)
    simp

/-- Two states that agree on the configuration and on the machine acted on have one outcome, up to the other machines. -/
theorem ActsOn.outcome_congr {m : MachineId} {g : State → Result State} (hg : ActsOn m g) {s u : State} (hc : s.cfg = u.cfg)
    (hp : m = .poseidon → s.p = u.p) (hh : m = .hermes → s.h = u.h) (ha : m = .argus → s.a = u.a) :
    (∀ e, g s = .fault e ↔ g u = .fault e) ∧ (∀ e, g s = .refused e ↔ g u = .refused e) ∧
      ∀ t, g s = .next t → ∃ v, g u = .next v ∧ (m = .poseidon → t.p = v.p) ∧ (m = .hermes → t.h = v.h) ∧
        (m = .argus → t.a = v.a) := by
  cases hg with
  | poseidon f h =>
    refine ⟨fun e => ?_, fun e => ?_, fun t ht => ?_⟩
    · simp only [h, State.onPoseidon_eq_fault, hc, hp rfl]
    · simp only [h, State.onPoseidon_eq_refused, hc, hp rfl]
    · obtain ⟨p, hf, rfl⟩ := State.onPoseidon_eq_next.1 ((h s).symm.trans ht)
      rw [hc, hp rfl] at hf
      exact ⟨u.withP p, (h u).trans (State.onPoseidon_eq_next.2 ⟨p, hf, rfl⟩), by simp⟩
  | hermes f h =>
    refine ⟨fun e => ?_, fun e => ?_, fun t ht => ?_⟩
    · simp only [h, State.onHermes_eq_fault, hc, hh rfl]
    · simp only [h, State.onHermes_eq_refused, hc, hh rfl]
    · obtain ⟨h', hf, rfl⟩ := State.onHermes_eq_next.1 ((h s).symm.trans ht)
      rw [hc, hh rfl] at hf
      exact ⟨u.withH h', (h u).trans (State.onHermes_eq_next.2 ⟨h', hf, rfl⟩), by simp⟩
  | argus f h =>
    refine ⟨fun e => ?_, fun e => ?_, fun t ht => ?_⟩
    · simp only [h, State.onArgus_eq_fault, hc, ha rfl]
    · simp only [h, State.onArgus_eq_refused, hc, ha rfl]
    · obtain ⟨a, hf, rfl⟩ := State.onArgus_eq_next.1 ((h s).symm.trans ht)
      rw [hc, ha rfl] at hf
      exact ⟨u.withA a, (h u).trans (State.onArgus_eq_next.2 ⟨a, hf, rfl⟩), by simp⟩

/-- Settles O10: every order acts on its own machine, and such an operation keeps the rest. -/
theorem machinesHaveDisjointState : Obligations.MachinesHaveDisjointState :=
  fun i _ _ ht => (actsOn_exec i).frame ht

/-- Settles O11: every order acts on its own machine, and such an operation reads nothing else. -/
theorem ordersReadOnlyTheirOwnMachine : Obligations.OrdersReadOnlyTheirOwnMachine :=
  fun i _ _ hc hp hh ha => (actsOn_exec i).outcome_congr hc hp hh ha

end Sys2Proof.Machine
end

section
/-! PROOFS. The functions of the three machines as arithmetic modulo 2^w and bit by bit, and the overflow tests against the true
result (spec/00_scope.md R13, R16). -/

namespace Sys2Proof.Machine

/-! ### `trunc` and the sums as natural numbers -/

theorem trunc_natCast (w n : Nat) : trunc w (n : Int) = n % 2 ^ w := by
  rw [trunc, ← Int.natCast_mod, Int.toNat_natCast]

/-- `trunc` depends on its integer modulo 2^w alone. -/
theorem trunc_congr {w : Nat} {i j : Int} (h : i ≡ j [ZMOD ((2 ^ w : Nat) : Int)]) : trunc w i = trunc w j :=
  congrArg Int.toNat h

theorem trunc_add_two_pow (w : Nat) (i : Int) : trunc w (i + ((2 ^ w : Nat) : Int)) = trunc w i :=
  trunc_congr Int.add_modEq_right

theorem addW_eq_mod (w a b : Nat) : addW w a b = (a + b) % 2 ^ w := by
  rw [addW, ← Nat.cast_add, trunc_natCast]

theorem subW_eq_mod {w b : Nat} (a : Nat) (hb : b < 2 ^ w) : subW w a b = (a + (2 ^ w - b)) % 2 ^ w := by
  have hcast : ((a : Int) - b) + ((2 ^ w : Nat) : Int) = ((a + (2 ^ w - b) : Nat) : Int) := by omega
  rw [subW, ← trunc_add_two_pow, hcast, trunc_natCast]

theorem negW_eq_mod {w a : Nat} (ha : a < 2 ^ w) : negW w a = (2 ^ w - a) % 2 ^ w := by
  have hcast : -(a : Int) + ((2 ^ w : Nat) : Int) = ((2 ^ w - a : Nat) : Int) := by omega
  rw [negW, ← trunc_add_two_pow, hcast, trunc_natCast]

/-! ### The logical functions bit by bit -/

theorem testBit_andW (a b k : Nat) : (andW a b).testBit k = (a.testBit k && b.testBit k) := Nat.testBit_and ..

theorem testBit_xorW (a b k : Nat) : (xorW a b).testBit k = (a.testBit k != b.testBit k) := Nat.testBit_xor ..

theorem testBit_notW {w a k : Nat} (ha : a < 2 ^ w) (hk : k < w) : (notW w a).testBit k = !a.testBit k := by
  rw [notW, Nat.sub_sub, Nat.add_comm 1 a, Nat.testBit_two_pow_sub_succ ha, decide_eq_true hk, Bool.true_and]

/-- Settles O22: an equation modulo 2^w for each sum, and a law of each bit for each logical function. -/
theorem wordFunctionsAreTheSpecs : Obligations.WordFunctionsAreTheSpecs := by
  intro w b c hb hc
  refine ⟨?_, ?_, fun k hk => ⟨testBit_xorW .., ?_, testBit_andW .., ?_, testBit_andW .., testBit_xorW ..⟩,
    rfl, addW_eq_mod .., negW_eq_mod hc, subW_eq_mod b hc, subW_eq_mod c hb,
    fun f => f.apply_lt hb hc, fun f => f.apply_lt hb hc⟩
  · simp [PFunction.apply, addW_eq_mod]
  · simp [PFunction.apply, subW_eq_mod b hc]
  · rw [PFunction.apply, testBit_xorW, testBit_notW hc hk]
    cases b.testBit k <;> cases c.testBit k <;> rfl
  · rw [PFunction.apply, testBit_andW, testBit_notW hc hk]

/-! ### The sign and the overflow tests -/

/-- A word of w bits is negative exactly when its top bit is 1. -/
theorem sval_neg_iff_testBit {w v : Nat} (hw : 1 ≤ w) (hv : v < 2 ^ w) : sval w v < 0 ↔ v.testBit (w - 1) = true := by
  have hsplit : 2 ^ w = 2 ^ (w - 1 + 1) := by rw [Nat.sub_add_cancel hw]
  unfold sval
  split
  · next hlt => simp [Nat.testBit_lt_two_pow hlt]
  · next hge =>
    have htop := Nat.testBit_of_two_pow_le_and_two_pow_add_one_gt (Nat.le_of_not_lt hge) (hsplit ▸ hv)
    simp only [htop, iff_true]
    omega

/-- The signed value of a word is the word modulo 2^w. -/
theorem sval_modEq (w v : Nat) : sval w v ≡ (v : Int) [ZMOD ((2 ^ w : Nat) : Int)] := by
  unfold sval
  split
  · exact .rfl
  · exact (Int.modEq_sub_modulus_iff.2 .rfl).symm

/-- The wrapped results are `trunc` of the true signed results. -/
theorem addW_eq_trunc_sval (w a b : Nat) : addW w a b = trunc w (sval w a + sval w b) :=
  trunc_congr ((sval_modEq w a).add (sval_modEq w b)).symm

theorem subW_eq_trunc_sval (w a b : Nat) : subW w a b = trunc w (sval w a - sval w b) :=
  trunc_congr ((sval_modEq w a).sub (sval_modEq w b)).symm

theorem negW_eq_trunc_sval (w a : Nat) : negW w a = trunc w (-sval w a) :=
  trunc_congr (sval_modEq w a).neg.symm

/-- An integer fits exactly when wrapping it to a word keeps its signed value. -/
theorem fitsSigned_iff_sval_trunc {w : Nat} (hw : 1 ≤ w) (t : Int) : fitsSigned w t = true ↔ sval w (trunc w t) = t := by
  refine ⟨sval_trunc_of_fits hw, fun h => ?_⟩
  have hrange := sval_range hw (trunc_lt w t)
  rw [h] at hrange
  exact decide_eq_true hrange

/-- The negation of the one word -2^(w-1) is the only one that does not fit. -/
theorem ovfNeg_eq_not_fitsSigned {w a : Nat} (hw : 1 ≤ w) (ha : a < 2 ^ w) : ovfNeg w a = !fitsSigned w (-sval w a) := by
  have hrange := sval_range hw ha
  simp only [ovfNeg, fitsSigned, ← decide_not, decide_eq_decide]
  omega

/-- Settles O23: each overflow test is the negation of `fitsSigned` of the true result, whose wrapped form is the machine's. -/
theorem overflowIsAWrongSignedResult : Obligations.OverflowIsAWrongSignedResult := by
  intro w a b hw ha _
  obtain ⟨hlow, hhigh⟩ := sval_range hw ha
  refine ⟨sval_neg_iff_testBit hw ha, hlow, hhigh, ?_, ?_, ?_⟩
  · rw [ovfAdd, Bool.not_eq_false', fitsSigned_iff_sval_trunc hw, addW_eq_trunc_sval]
  · rw [ovfSub, Bool.not_eq_false', fitsSigned_iff_sval_trunc hw, subW_eq_trunc_sval]
  · rw [ovfNeg_eq_not_fitsSigned hw ha, Bool.not_eq_false', fitsSigned_iff_sval_trunc hw, negW_eq_trunc_sval]

end Sys2Proof.Machine
end

section
/-! PROOFS. What an Argus order keeps: a relation between the Argus before and after, with one lemma per update, composed for each
shape of order. -/

namespace Sys2Proof.Machine

/-! ### The relation and the updates -/

/-- What an Argus order keeps where it is none of 64 to 67, 70 and 77: words fit, the program, A.halted, the modifiers and the link
stay, the event history grows, and A.OVR is not cleared. -/
structure AState.Ordinary (c : Config) (a a' : AState) : Prop where
  wf : a.wf c → a'.wf c
  fixed : a'.prog = a.prog ∧ a'.halted = a.halted ∧ a'.mod = a.mod ∧ a'.link = a.link
  history : a.history <+: a'.history
  ovr : a.ovr = true → a'.ovr = true

namespace AState.Ordinary

variable {c : Config} {a b d : AState}

theorem trans (h : AState.Ordinary c a b) (k : AState.Ordinary c b d) : AState.Ordinary c a d :=
  ⟨k.wf ∘ h.wf, by simp [h.fixed, k.fixed], h.history.trans k.history, k.ovr ∘ h.ovr⟩

theorem setx (x : BitVec 3) {v : Nat} (hv : a.wf c → v < 2 ^ accWidth c x) : AState.Ordinary c a (a.setx c x v) :=
  ⟨fun hw => AState.setx_wf hw x (hv hw), by simp, by simp, by simp⟩

theorem setp {v : Nat} (hv : a.wf c → v < 2 ^ (2 * c.aW)) : AState.Ordinary c a (a.setp c v) :=
  ⟨fun hw => AState.setp_wf hw (hv hw), by simp, by simp, by simp⟩

theorem setpq {v : Nat} (hv : a.wf c → v < 2 ^ (4 * c.aW)) : AState.Ordinary c a (a.setpq c v) :=
  ⟨fun hw => AState.setpq_wf hw (hv hw), by simp, by simp, by simp⟩

theorem setProduct (x : BitVec 3) {v : Nat} (hv : v < 2 ^ productWidth c x) : AState.Ordinary c a (a.setProduct c x v) :=
  ⟨fun hw => AState.setProduct_wf hw x hv, by simp, by simp, by simp⟩

theorem clearRemainder (x : BitVec 3) : AState.Ordinary c a (a.clearRemainder x) := by
  refine ⟨fun hw => ?_, by simp, by simp, by simp⟩
  unfold AState.clearRemainder
  split
  · obtain ⟨hx, -, -, hrest⟩ := hw
    exact ⟨hx, Nat.two_pow_pos _, Nat.two_pow_pos _, hrest⟩
  · exact AState.setx_wf hw 5#3 (v := 0) (Nat.two_pow_pos _)

theorem putS {e v : Nat} (he : e < c.aStoreSize) (hv : v < 2 ^ c.aW) : AState.Ordinary c a (a.putS e v) :=
  ⟨fun hw => AState.putS_wf hw he hv, by simp, by simp, by simp⟩

theorem putOperand (x : BitVec 3) {ne : Addr13} {v : Nat} (he : ne.toNat < c.aStoreSize)
    (hv : a.wf c → v < 2 ^ accWidth c x) : AState.Ordinary c a (a.putOperand c x ne v) :=
  ⟨fun hw => AState.putOperand_wf hw x he (hv hw), by simp, by simp, by simp⟩

theorem noteOverflow (o : Bool) : AState.Ordinary c a (a.noteOverflow o) :=
  ⟨id, by simp, by simp, by simp +contextual⟩

theorem record (es : List Event) : AState.Ordinary c a (a.record es) :=
  ⟨id, by simp, by simp, by simp⟩

theorem jumpTo (e : Addr13) : AState.Ordinary c a (a.jumpTo e) :=
  ⟨id, by simp, by simp, by simp⟩

theorem advance : AState.Ordinary c a a.advance := jumpTo _

theorem jumpIf (cond : Bool) (e : Addr13) : AState.Ordinary c a (a.jumpIf cond e) := by
  cases cond
  · exact advance
  · exact jumpTo e

theorem setReg20 {v : Nat} (hv : v < 2 ^ c.aW) : AState.Ordinary c a (a.setReg20 v) :=
  ⟨fun ⟨hx, h1, h2, hs, _, hrest⟩ => ⟨hx, h1, h2, hs, hv, hrest⟩, by simp, by simp, by simp⟩

theorem setReg22 {v : Nat} (hv : v < 2 ^ c.aW) : AState.Ordinary c a (a.setReg22 v) :=
  ⟨fun ⟨hx, h1, h2, hs, h20, _, hrest⟩ => ⟨hx, h1, h2, hs, h20, hv, hrest⟩, by simp, by simp, by simp⟩

end AState.Ordinary

/-! ### The shapes of order -/

theorem productOf_lt (c : Config) (x : BitVec 3) (nv xv : Nat) : productOf c x nv xv < 2 ^ productWidth c x := by
  unfold productOf
  split
  · exact trunc_lt _ _
  · exact Nat.mod_lt _ (Nat.two_pow_pos _)

section
variable {c : Config} {a a' : AState} {n : Addr13} {x : BitVec 3} {m : BitVec 2}

theorem AState.storeToAcc_ordinary {f : AFunction} (h : AState.storeToAcc f n x m c a = .next a') : a.Ordinary c a' := by
  obtain ⟨-, -, rfl⟩ := AState.storeToAcc_eq_next.1 h
  exact (((Ordinary.setx x fun hw => f.apply_lt (xval_lt hw x) (storeOperand_lt hw x _)).trans (.noteOverflow _)).trans
    (.record _)).trans .advance

theorem AState.accToStore_ordinary {f : AFunction} (h : AState.accToStore f n x m c a = .next a') : a.Ordinary c a' := by
  obtain ⟨o, ho, -, hlt, rfl⟩ := AState.accToStore_eq_next.1 h
  have hval (hw : a.wf c) : o.val < 2 ^ accWidth c x := by
    rcases AState.firstOperand_eq_next.1 ho with ⟨-, -, -, rfl⟩ | ⟨-, rfl⟩
    · exact storeOperand_lt hw x _
    · exact Nat.two_pow_pos _
  exact (((Ordinary.putOperand x hlt fun hw => f.apply_lt (hval hw) (xval_lt hw x)).trans (.noteOverflow _)).trans
    (.record _)).trans .advance

theorem AState.constantToAcc_ordinary {f : AFunction} (h : AState.constantToAcc f n x m c a = .next a') :
    a.Ordinary c a' := by
  cases h
  exact ((Ordinary.setx x fun hw => f.apply_lt (xval_lt hw x) (constantOperand_lt c x _)).trans (.noteOverflow _)).trans
    .advance

theorem AState.toProduct_ordinary {value : AState → Nat → Nat → Nat} (hv : ∀ b nv xv, value b nv xv < 2 ^ productWidth c x)
    (h : AState.toProduct value n x m c a = .next a') : a.Ordinary c a' := by
  obtain ⟨-, -, rfl⟩ := AState.toProduct_eq_next.1 h
  exact ((Ordinary.setProduct x (hv _ _ _)).trans (.record _)).trans .advance

theorem AState.multiply_ordinary (h : AState.multiply n x m c a = .next a') : a.Ordinary c a' :=
  AState.toProduct_ordinary (fun _ _ _ => productOf_lt ..) h

theorem AState.multiplyRounded_ordinary (h : AState.multiplyRounded n x m c a = .next a') : a.Ordinary c a' := by
  unfold AState.multiplyRounded at h
  split at h
  · exact AState.toProduct_ordinary (fun _ _ _ => Nat.mod_lt _ (Nat.two_pow_pos _)) h
  · cases h

theorem AState.divide_ordinary (h : AState.divide n x m c a = .next a') : a.Ordinary c a' := by
  unfold AState.divide at h
  split at h
  · exact AState.toProduct_ordinary (fun _ _ _ => Nat.mod_lt _ (Nat.two_pow_pos _)) h
  · cases h

theorem AState.divideRounded_ordinary (h : AState.divideRounded n x m c a = .next a') : a.Ordinary c a' := by
  unfold AState.divideRounded at h
  split at h
  · exact AState.toProduct_ordinary (fun _ _ _ => Nat.mod_lt _ (Nat.two_pow_pos _)) h
  · cases h

theorem AState.divideRoundedAlone_ordinary (h : AState.divideRoundedAlone n x m c a = .next a') : a.Ordinary c a' := by
  obtain ⟨-, a1, h1, rfl⟩ := AState.divideRoundedAlone_eq_next.1 h
  exact (AState.divideRounded_ordinary h1).trans (.clearRemainder x)

/-- An input order is ordinary where the register's own cell is one of the Argus. -/
theorem AState.selectInput_ordinary {fn : BitVec 6} {place : IoRegisters → IoPlace} {own : Nat → AState → AState}
    (hown : ∀ {v}, v < 2 ^ c.aW → a.Ordinary c (own v a)) (h : AState.selectInput fn place own n m c a = .next a') :
    a.Ordinary c a' := by
  obtain ⟨regs, a1, -, hd, rfl⟩ := AState.selectInput_eq_next.1 h
  have hv : a.inputWord c < 2 ^ c.aW := Nat.mod_lt _ (Nat.two_pow_pos _)
  have hdeliver : a.Ordinary c a1 := by
    rcases AState.deliverTo_eq_next.1 hd with ⟨i, -, rfl⟩ | ⟨e, -, he, rfl⟩ | ⟨-, rfl⟩
    · refine ⟨fun ⟨hx, hrest⟩ => ⟨fun k => ?_, hrest⟩, by simp, by simp, by simp⟩
      simp only [Fin.getElem_fin, Vector.getElem_set]
      split
      · exact hv
      · exact hx k
    · exact .putS he hv
    · exact hown hv
  exact (hdeliver.trans (.record _)).trans .advance

theorem AState.shiftAccArith_ordinary (h : AState.shiftAccArith n x m c a = .next a') : a.Ordinary c a' := by
  cases h
  exact ((Ordinary.setx x fun _ => shiftArith_lt _ _ _).trans (.noteOverflow _)).trans .advance

theorem AState.shiftAccLogical_ordinary (h : AState.shiftAccLogical n x m c a = .next a') : a.Ordinary c a' := by
  cases h
  exact (Ordinary.setx x fun hw => shiftLogical_lt (xval_lt hw x) _).trans .advance

theorem AState.shiftDoubleArith_ordinary (h : AState.shiftDoubleArith n x m c a = .next a') : a.Ordinary c a' := by
  unfold AState.shiftDoubleArith at h
  split_ifs at h <;> cases h
  · exact ((Ordinary.setp fun _ => shiftArith_lt _ _ _).trans (.noteOverflow _)).trans .advance
  · exact ((Ordinary.setpq fun _ => shiftArith_lt _ _ _).trans (.noteOverflow _)).trans .advance

theorem AState.shiftDoubleLogical_ordinary (h : AState.shiftDoubleLogical n x m c a = .next a') : a.Ordinary c a' := by
  unfold AState.shiftDoubleLogical at h
  split_ifs at h <;> cases h
  · exact (Ordinary.setp fun hw => shiftLogical_lt (pval_lt hw) _).trans .advance
  · exact (Ordinary.setpq fun hw => shiftLogical_lt (pqval_lt hw) _).trans .advance

theorem AState.normaliseP_ordinary (h : AState.normaliseP x c a = .next a') : a.Ordinary c a' := by
  unfold AState.normaliseP at h
  split_ifs at h
  cases h
  exact ((Ordinary.setp fun _ => normaliseValue_lt _ _).trans (.setx x fun _ => Nat.mod_lt _ (Nat.two_pow_pos _))).trans
    .advance

theorem AState.normalisePQ_ordinary (h : AState.normalisePQ x c a = .next a') : a.Ordinary c a' := by
  unfold AState.normalisePQ at h
  split_ifs at h with hx
  cases h
  have hshort : accWidth c x = c.aW := accWidth_of_short (by bv_omega)
  exact ((Ordinary.setpq fun _ => normaliseValue_lt _ _).trans
    (.setx x fun _ => hshort ▸ Nat.mod_lt _ (Nat.two_pow_pos _))).trans .advance

theorem AState.jumpOnAcc_ordinary {cond : Nat → Nat → Bool} (h : AState.jumpOnAcc cond n x m c a = .next a') :
    a.Ordinary c a' := by
  cases h
  exact .jumpIf _ _

theorem AState.jumpOnTypewriter_ordinary {wanted : Bool} (h : AState.jumpOnTypewriter wanted n m c a = .next a') :
    a.Ordinary c a' := by
  cases h
  exact (Ordinary.record _).trans (.jumpIf _ _)

end

/-! ### The special functions -/

/-- What any Argus order keeps; what a special function does not keep names that function. -/
structure AState.Kept (c : Config) (i : Instr) (a a' : AState) : Prop where
  wf : a.wf c → a'.wf c
  prog : a'.prog = a.prog
  history : a.history <+: a'.history
  stays : a.halted = true → a'.halted = true
  halted : a'.halted ≠ a.halted → ∃ n x m, i = .a77 n x m
  ovr : a.ovr = true → a'.ovr = false → ∃ n x m, i = .a64 n x m ∨ i = .a65 n x m
  mod : a'.mod ≠ a.mod → ∃ n x m, i = .a66 n x m ∨ i = .a67 n x m
  link : a'.link ≠ a.link → ∃ n x m, i = .a70 n x m

section
variable {c : Config} {i : Instr} {a a' : AState} {n : Addr13} {x : BitVec 3} {m : BitVec 2}

theorem AState.Ordinary.kept (h : a.Ordinary c a') : a.Kept c i a' := by
  obtain ⟨hprog, hhalted, hmod, hlink⟩ := h.fixed
  exact ⟨h.wf, hprog, h.history, by simp [hhalted], absurd hhalted, fun h1 h2 => by simp [h.ovr h1] at h2, absurd hmod,
    absurd hlink⟩

theorem AState.Kept.refl : a.Kept c i a :=
  ⟨id, rfl, List.prefix_rfl, id, absurd rfl, fun h1 h2 => by simp [h1] at h2, absurd rfl, absurd rfl⟩

/-- 64 and 65 jump and clear A.OVR. -/
theorem AState.jumpOnOverflow_kept {wanted : Bool} (hi : ∃ n x m, i = .a64 n x m ∨ i = .a65 n x m)
    (h : AState.jumpOnOverflow wanted n m c a = .next a') : a.Kept c i a' := by
  cases h
  have hjump := Ordinary.jumpIf (c := c) (a := a) (a.ovr == wanted) (a.effectiveN c n m)
  exact ⟨hjump.wf, by simp, by simp, by simp, by simp, fun _ _ => hi, by simp, by simp⟩

/-- 66 and 67 count x and the modifier, and jump. -/
theorem AState.countingJump_kept {k : Nat} (hi : ∃ n x m, i = .a66 n x m ∨ i = .a67 n x m)
    (h : AState.countingJump k n x m c a = .next a') : a.Kept c i a' := by
  cases h
  refine ⟨fun hw => ?_, by simp, by simp, by simp, by simp, by simp +contextual, fun _ => hi, by simp⟩
  have hx : (a.setx c x (subW (accWidth c x) (a.xval c x) k)).wf c := setx_wf hw x (subW_lt _ _ _)
  exact (Ordinary.jumpIf _ _).wf (by simpa [AState.wf] using hx)

/-- 70 writes the link and jumps. -/
theorem AState.jumpStoringLink_kept (hi : ∃ n x m, i = .a70 n x m) (h : AState.jumpStoringLink n m c a = .next a') :
    a.Kept c i a' := by
  cases h
  exact ⟨id, rfl, List.prefix_rfl, id, absurd rfl, by simp +contextual, absurd rfl, fun _ => hi⟩

/-- 77 sets A.halted and counts pc. -/
theorem AState.stop_kept (hi : ∃ n x m, i = .a77 n x m) : a.Kept c i a.stop :=
  ⟨id, rfl, List.prefix_rfl, fun _ => rfl, fun _ => hi, by simp +contextual, absurd rfl, absurd rfl⟩

end

end Sys2Proof.Machine
end

section
/-! PROOFS. What a Hermes order keeps, composed from one lemma per update; which orders write N1. -/

namespace Sys2Proof.Machine

/-- What every Hermes order keeps: words fit, the program stays, and the event history grows. -/
structure HState.Ordinary (c : Config) (h h' : HState) : Prop where
  wf : h.wf c → h'.wf c
  prog : h'.prog = h.prog
  history : h.history <+: h'.history

namespace HState.Ordinary

variable {c : Config} {h k l : HState}

theorem trans (hk : h.Ordinary c k) (kl : k.Ordinary c l) : h.Ordinary c l :=
  ⟨kl.wf ∘ hk.wf, kl.prog.trans hk.prog, hk.history.trans kl.history⟩

theorem refl : h.Ordinary c h := ⟨id, rfl, List.prefix_rfl⟩

theorem putV {e v : Nat} (he : e < c.hStoreSize) (hv : v < 2 ^ c.hW) : h.Ordinary c (h.putV e v) :=
  ⟨fun hw => HState.putV_wf hw he hv, by simp, by simp⟩

theorem record (es : List Event) : h.Ordinary c (h.record es) := ⟨id, by simp, by simp⟩

theorem jumpTo {e : Nat} (he : e < 2 ^ c.hAW) : h.Ordinary c (h.jumpTo e) :=
  ⟨fun hw => HState.jumpTo_wf hw he, by simp, by simp⟩

theorem advance : h.Ordinary c (h.advance c) := jumpTo (trunc_lt _ _)

theorem setN1 {e : Nat} (he : e < 2 ^ c.hAW) : h.Ordinary c (h.setN1 e) :=
  ⟨fun hw => HState.setN1_wf hw he, by simp, by simp⟩

theorem stepN1 (j : N1Step) : h.Ordinary c (h.stepN1 c j) := ⟨fun hw => HState.stepN1_wf hw j, by simp, by simp⟩

end HState.Ordinary

section
variable {c : Config} {h h' : HState} {t : HThird} {fa fb fc : Field5}

theorem HState.testJump_ordinary {j : HJump} {test : HTest} (hn : HState.testJump j t test fa fb fc c h = .next h') :
    h.Ordinary c h' ∧ h'.n1 = h.n1 := by
  obtain ⟨r, -, ⟨-, d, hd, rfl⟩ | ⟨-, rfl⟩⟩ := HState.testJump_eq_next.1 hn
  · exact ⟨(Ordinary.record _).trans (.jumpTo (target_lt hd)), by simp⟩
  · exact ⟨(Ordinary.record _).trans .advance, by simp⟩

theorem HState.storeJump_ordinary {j : HJump} {test : HTest} (hn : HState.storeJump j t test fa fb fc c h = .next h') :
    h.Ordinary c h' ∧ h'.n1 = h.n1 := by
  obtain ⟨d, r, hd, hr, hlt, rfl⟩ := HState.storeJump_eq_next.1 hn
  have hpc : (if test.holds c.hW r.val then d.val else h.nextPc c) < 2 ^ c.hAW := by
    split
    · exact target_lt hd
    · exact trunc_lt _ _
  exact ⟨((Ordinary.putV hlt (sumOf_lt hr)).trans (.record _)).trans (.jumpTo hpc), by simp⟩

theorem HState.sumToVA_ordinary {k : N1Step} (hn : HState.sumToVA t k fa fb fc c h = .next h') : h.Ordinary c h' := by
  obtain ⟨r, hr, hlt, rfl⟩ := HState.sumToVA_eq_next.1 hn
  exact (((Ordinary.putV hlt (sumOf_lt hr)).trans (.stepN1 k)).trans (.record _)).trans .advance

theorem HState.sumToVA_keep_n1 (hn : HState.sumToVA t .keep fa fb fc c h = .next h') : h'.n1 = h.n1 := by
  obtain ⟨r, -, -, rfl⟩ := HState.sumToVA_eq_next.1 hn
  rfl

theorem HState.sumThroughVA_ordinary (hn : HState.sumThroughVA fa fb fc c h = .next h') : h.Ordinary c h' := by
  obtain ⟨r, d, hr, hd, hlt, rfl⟩ := HState.sumThroughVA_eq_next.1 hn
  exact (((Ordinary.putV hlt (sumOf_lt hr)).trans (.setN1 (target_lt (j := .throughVA) hd))).trans (.record _)).trans
    .advance

theorem HState.sumToOffset_ordinary (hn : HState.sumToOffset fa fb fc c h = .next h') :
    h.Ordinary c h' ∧ h'.n1 = h.n1 := by
  obtain ⟨r, hr, hlt, rfl⟩ := HState.sumToOffset_eq_next.1 hn
  exact ⟨((Ordinary.putV hlt (sumOf_lt hr)).trans (.record _)).trans .advance, by simp⟩

/-- The address that an order reads for N1 has H_AW bits. -/
theorem HState.readThrough_lt {which : Nat} {f : Field5} {i : Indirect} (hi : h.readThrough c which f = .next i) :
    i.n1 < 2 ^ c.hAW := by
  obtain ⟨-, -, rfl⟩ := HState.readThrough_eq_next.1 hi
  exact toHermesAddress_lt _ _

theorem HState.loadThroughVB_ordinary (hn : HState.loadThroughVB fa fb fc c h = .next h') : h.Ordinary c h' := by
  obtain ⟨i, r, hi, hr, hlt, rfl⟩ := HState.loadThroughVB_eq_next.1 hn
  exact (((Ordinary.putV hlt (sumOf_lt hr)).trans (.setN1 (readThrough_lt hi))).trans (.record _)).trans .advance

theorem HState.loadThroughVC_ordinary (hn : HState.loadThroughVC fa fb fc c h = .next h') : h.Ordinary c h' := by
  obtain ⟨i, r, hi, hr, hlt, rfl⟩ := HState.loadThroughVC_eq_next.1 hn
  exact (((Ordinary.putV hlt (sumOf_lt hr)).trans (.setN1 (readThrough_lt hi))).trans (.record _)).trans .advance

theorem HState.sumNaming_ordinary {f : Field5} (hn : HState.sumNaming f fa fb fc c h = .next h') : h.Ordinary c h' := by
  obtain ⟨r, hr, hlt, rfl⟩ := HState.sumNaming_eq_next.1 hn
  exact (((Ordinary.putV hlt (sumOf_lt hr)).trans (.setN1 (Nat.mod_lt _ (Nat.two_pow_pos _)))).trans (.record _)).trans
    .advance

end

/-- The order is one of `os`, with some fields. -/
abbrev OneOf (i : Instr) (os : List (Field5 → Field5 → Field5 → Instr)) : Prop := ∃ a b c, ∃ o ∈ os, i = o a b c

/-- The cells that write N1 (spec/10_state.md R41). -/
def n1Orders : List (Field5 → Field5 → Field5 → Instr) :=
  [.h0_10_1, .h0_10_2, .h0_11_2, .h0_10_3, .h0_11_3, .h0_10_6, .h0_11_6, .h0_10_7, .h0_11_7]

/-- What any Hermes order keeps; one that writes N1 is named. -/
structure HState.Kept (c : Config) (i : Instr) (h h' : HState) : Prop extends h.Ordinary c h' where
  n1 : h'.n1 ≠ h.n1 → OneOf i n1Orders

theorem HState.Kept.refl {c : Config} {i : Instr} {h : HState} : h.Kept c i h := ⟨.refl, absurd rfl⟩

end Sys2Proof.Machine
end

section
/-! PROOFS. What a Poseidon order keeps (spec/40_poseidon_group0.md R140); which orders punch, count in N or lambda, or leave Inner
mode. -/

namespace Sys2Proof.Machine

/-- The orders of each variant V that can answer a next state (spec/30_encoding.md R107); of V = 7 the orders of W = 4 and 5 cannot
(`obey_device_collate_ne_next`). -/
def PVariant.orders : PVariant → List (Field5 → Field5 → Field5 → Instr)
  | .plain => [.p000, .p001, .p002, .p003, .p004, .p005, .p006, .p007]
  | .countN => [.p010, .p011, .p012, .p013, .p014, .p015, .p016, .p017]
  | .countBoth => [.p020, .p021, .p022, .p023, .p024, .p025, .p026, .p027]
  | .conditional => [.p030, .p032, .p034, .p036]
  | .returnOuter => [.p040, .p041, .p042, .p043, .p044, .p045, .p046, .p047]
  | .fast => [.p050, .p051, .p052, .p053, .p054, .p055, .p056, .p057]
  | .countLambda => [.p060, .p061, .p062, .p063, .p064, .p065, .p066, .p067]
  | .device => [.p070, .p071, .p072, .p073, .p076, .p077]

/-- What any Poseidon order keeps; one that writes P.punch, P.N, P.lambda or P.mode is named by its variant. -/
structure PState.Kept (c : Config) (i : Instr) (p p' : PState) : Prop where
  wf : c.wf → p.wf c → p'.wf c
  fixed : p'.fps = p.fps ∧ p'.ds = p.ds ∧ p'.l = p.l ∧ p'.mu = p.mu ∧ p'.alpha = p.alpha ∧ p'.kappa = p.kappa ∧ p'.q = p.q
  history : p.history <+: p'.history
  punch : p.punch <+: p'.punch
  ovr : p.ovr = true → p'.ovr = true
  punchedBy : p'.punch ≠ p.punch → ∃ b d : Field5, i ∈ PVariant.device.orders.map fun o => o 3#5 b d
  n : p'.n ≠ p.n → OneOf i (PVariant.countN.orders ++ PVariant.countBoth.orders)
  lambda : p'.lambda ≠ p.lambda → OneOf i (PVariant.countBoth.orders ++ PVariant.countLambda.orders)
  mode : p'.mode ≠ p.mode → OneOf i PVariant.returnOuter.orders

theorem PState.Kept.refl {c : Config} {i : Instr} {p : PState} : p.Kept c i p :=
  ⟨fun _ => id, by simp, by simp, by simp, id, absurd rfl, absurd rfl, absurd rfl, absurd rfl⟩

section
variable {c : Config} {v : PVariant} {f : PFunction} {op : Option PFunction} {collate : Bool} {fa fb fc : Field5}

theorem PVariant.countsN_iff : v.countsN = true ↔ v = .countN ∨ v = .countBoth := by simp [PVariant.countsN]

theorem PVariant.countsLambda_iff : v.countsLambda = true ↔ v = .countBoth ∨ v = .countLambda := by
  simp [PVariant.countsLambda]

theorem PState.recordResult_history_grows (bv cv r : Nat) (p : PState) :
    p.history <+: (p.recordResult c f bv cv r).history := by
  unfold PState.recordResult
  split <;> simp

theorem PState.recordResult_ovr_of (bv cv r : Nat) {p : PState} (h : p.ovr = true) :
    (p.recordResult c f bv cv r).ovr = true := by
  unfold PState.recordResult
  split <;> simp [h]

theorem PState.deliver_punch_grows (r : Nat) (p : PState) : p.punch <+: (p.deliver c v fa r).punch := by
  unfold PState.deliver
  split <;> simp

/-- Only a V = 7 order with A = 3 punches. -/
theorem PState.deliver_punch_of_ne {r : Nat} {p : PState} (h : (p.deliver c v fa r).punch ≠ p.punch) :
    v = .device ∧ fa = 3#5 := by
  unfold PState.deliver at h
  split at h
  · assumption
  · simp at h

theorem PState.deliver_wf {r : Nat} {p : PState} (hw : p.wf c) (hr : r < 2 ^ c.pW) : (p.deliver c v fa r).wf c := by
  unfold PState.deliver
  split
  · exact hw
  · exact PState.writeR_wf hw fa hr

theorem PState.operate_history_grows (o : PSources) (p : PState) : p.history <+: (p.operate c v op fa o).history := by
  cases op with
  | none => exact List.prefix_rfl
  | some f =>
    simp only [PState.operate, PState.deliver_history]
    exact (List.prefix_append _ _).trans (PState.recordResult_history_grows _ _ _ (p.record o.events))

theorem PState.operate_punch_grows (o : PSources) (p : PState) : p.punch <+: (p.operate c v op fa o).punch := by
  cases op with
  | none => exact List.prefix_rfl
  | some f =>
    have hpunch : p.punch = ((p.record o.events).recordResult c f o.b o.c (f.apply c.pW o.b o.c)).punch := by simp
    exact hpunch ▸ PState.deliver_punch_grows _ _

theorem PState.operate_ovr_of {o : PSources} {p : PState} (h : p.ovr = true) : (p.operate c v op fa o).ovr = true := by
  cases op with
  | none => exact h
  | some f =>
    simp only [PState.operate, PState.deliver_ovr]
    exact PState.recordResult_ovr_of _ _ _ (p := p.record o.events) h

theorem PState.operate_punch_of_ne {o : PSources} {p : PState} (h : (p.operate c v op fa o).punch ≠ p.punch) :
    v = .device ∧ fa = 3#5 := by
  cases op with
  | none => exact absurd rfl h
  | some f =>
    have hpunch : p.punch = ((p.record o.events).recordResult c f o.b o.c (f.apply c.pW o.b o.c)).punch := by simp
    exact PState.deliver_punch_of_ne (hpunch ▸ h)

theorem PState.operate_wf {o : PSources} {p : PState} (hw : p.wf c) (hb : o.b < 2 ^ c.pW) (hc : o.c < 2 ^ c.pW) :
    (p.operate c v op fa o).wf c := by
  cases op with
  | none => exact hw
  | some f => exact PState.deliver_wf (by simpa [PState.wf] using hw) (f.apply_lt hb hc)

/-- The tests of R143 refuse W = 4 and 5 in V = 7: with a field 3 by the first test, without one by the third. -/
theorem PState.obey_device_collate_ne_next {p p' : PState} : PState.obey .device true op fa fb fc c p ≠ .next p' := by
  intro h
  obtain ⟨-, hcheck, -⟩ := PState.obey_eq_next.1 h
  cases h3 : (decide (fa = 3#5) || decide (fb = 3#5) || decide (fc = 3#5)) <;> simp [addressCheck, h3] at hcheck

/-- Every order that is obeyed. -/
theorem PState.obey_kept {o : Field5 → Field5 → Field5 → Instr} (ho : o ∈ v.orders) {p p' : PState}
    (h : PState.obey v collate op fa fb fc c p = .next p') : p.Kept c (o fa fb fc) p' := by
  obtain ⟨-, -, src, hsrc, rfl⟩ := PState.obey_eq_next.1 h
  obtain ⟨fl, fmu, falpha, fkappa, -, -, fovr, fq, fpunch, ffps, fds, fhistory⟩ :=
    PState.finish_frame v fb fc p (p.operate c v op fa src)
  obtain ⟨on, ol, olambda, omu, oalpha, okappa, oq, -, -, ofps, ods⟩ := PState.operate_frame c v op fa src p
  have hname {os : List (Field5 → Field5 → Field5 → Instr)} (hos : o ∈ os) : OneOf (o fa fb fc) os :=
    ⟨fa, fb, fc, o, hos, rfl⟩
  constructor
  case wf =>
    intro hc hw
    obtain ⟨hb, hd⟩ := PState.sources_lt hc hw hsrc
    have how : (p.operate c v op fa src).wf c := PState.operate_wf hw hb hd
    simpa only [PState.wf, PState.finish_r, fq, ffps, fds] using how
  case fixed => simp [fl, fmu, falpha, fkappa, fq, ffps, fds, ol, omu, oalpha, okappa, oq, ofps, ods]
  case history => exact fhistory ▸ PState.operate_history_grows src p
  case punch => exact fpunch ▸ PState.operate_punch_grows src p
  case ovr => exact fun hovr => fovr.trans (PState.operate_ovr_of hovr)
  case punchedBy =>
    intro hne
    obtain ⟨rfl, rfl⟩ := PState.operate_punch_of_ne (fpunch ▸ hne)
    exact ⟨fb, fc, List.mem_map_of_mem (f := fun o => o 3#5 fb fc) ho⟩
  case n =>
    intro hne
    have hv : v.countsN = true := by
      by_contra hv
      simp [hv, on] at hne
    rcases PVariant.countsN_iff.1 hv with rfl | rfl
    · exact hname (List.mem_append_left _ ho)
    · exact hname (List.mem_append_right _ ho)
  case lambda =>
    intro hne
    have hv : v.countsLambda = true := by
      by_contra hv
      simp [hv, olambda] at hne
    rcases PVariant.countsLambda_iff.1 hv with rfl | rfl
    · exact hname (List.mem_append_left _ ho)
    · exact hname (List.mem_append_right _ ho)
  case mode =>
    intro hne
    have hv : v = .returnOuter := by
      by_contra hv
      simp [hv] at hne
    exact hname (hv ▸ ho)

end

end Sys2Proof.Machine
end

section
/-! PROOFS. What every order keeps, said once of all three machines (`exec_kept`). A step is an order, or an interruption entry, after a
record (`step_relates`), so the invariant and the frame statements are read off these two. -/

namespace Sys2Proof.Machine

/-! ### Every order -/

/-- What an order keeps of the three machines. -/
structure Kept (i : Instr) (s t : State) : Prop where
  p : s.p.Kept s.cfg i t.p
  h : s.h.Kept s.cfg i t.h
  a : s.a.Kept s.cfg i t.a

section
variable {i : Instr} {s t : State}

theorem kept_of_obey {v : PVariant} {o : Field5 → Field5 → Field5 → Instr} {collate : Bool} {op : Option PFunction}
    {fa fb fc : Field5} (h : s.onPoseidon (PState.obey v collate op fa fb fc) = .next t) (ho : o ∈ v.orders) :
    Kept (o fa fb fc) s t := by
  obtain ⟨p', hp, rfl⟩ := State.onPoseidon_eq_next.1 h
  exact ⟨PState.obey_kept ho hp, .refl, .refl⟩

theorem kept_of_keepsN1 {f : Config → HState → Result HState} (h : s.onHermes f = .next t)
    (hf : ∀ {h'}, f s.cfg s.h = .next h' → s.h.Ordinary s.cfg h' ∧ h'.n1 = s.h.n1) : Kept i s t := by
  obtain ⟨h', hh, rfl⟩ := State.onHermes_eq_next.1 h
  obtain ⟨hord, hn1⟩ := hf hh
  exact ⟨.refl, ⟨hord, absurd hn1⟩, .refl⟩

theorem kept_of_writesN1 {f : Config → HState → Result HState} {o : Field5 → Field5 → Field5 → Instr} {fa fb fc : Field5}
    (h : s.onHermes f = .next t) (hf : ∀ {h'}, f s.cfg s.h = .next h' → s.h.Ordinary s.cfg h') (ho : o ∈ n1Orders) :
    Kept (o fa fb fc) s t := by
  obtain ⟨h', hh, rfl⟩ := State.onHermes_eq_next.1 h
  exact ⟨.refl, ⟨hf hh, fun _ => ⟨fa, fb, fc, o, ho, rfl⟩⟩, .refl⟩

theorem kept_of_argus {f : Config → AState → Result AState} (h : s.onArgus f = .next t)
    (hf : ∀ {a'}, f s.cfg s.a = .next a' → s.a.Kept s.cfg i a') : Kept i s t := by
  obtain ⟨a', ha, rfl⟩ := State.onArgus_eq_next.1 h
  exact ⟨.refl, .refl, hf ha⟩

/-- An order that stops has no next state. -/
theorem kept_of_refused {e : Refusal} (h : (.refused e : Result State) = .next t) : Kept i s t := nomatch h

/-- Every order keeps what its machine's relation says, and the other machines whole. -/
theorem exec_kept (h : exec i s = .next t) : Kept i s t := by
  cases i <;> simp only [exec] at h
  case p000 | p001 | p002 | p003 | p004 | p005 | p006 | p007 | p010 | p011 | p012 | p013 | p014 | p015 | p016 | p017
    | p020 | p021 | p022 | p023 | p024 | p025 | p026 | p027 | p030 | p032 | p034 | p036
    | p040 | p041 | p042 | p043 | p044 | p045 | p046 | p047 | p050 | p051 | p052 | p053 | p054 | p055 | p056 | p057
    | p060 | p061 | p062 | p063 | p064 | p065 | p066 | p067 | p070 | p071 | p072 | p073 | p076 | p077 =>
    exact kept_of_obey h (by simp [PVariant.orders])
  case p074 | p075 =>
    obtain ⟨p', hp, -⟩ := State.onPoseidon_eq_next.1 h
    exact absurd hp PState.obey_device_collate_ne_next
  case p031 | p033 | p035 | p037 | p1xx | p2xx | p3xx | p4xx | p5xx | p6xx | p7xx =>
    exact absurd h (poseidonRefused_ne_next _ _ _)
  case h0_00_0 | h0_01_0 | h0_00_1 | h0_01_1 | h0_00_2 | h0_01_2 | h0_00_3 | h0_01_3 =>
    exact kept_of_keepsN1 h HState.testJump_ordinary
  case h0_00_4 | h0_01_4 | h0_00_5 | h0_01_5 | h0_00_6 | h0_01_6 | h0_00_7 | h0_01_7 =>
    exact kept_of_keepsN1 h HState.storeJump_ordinary
  case h0_10_0 | h0_11_0 =>
    exact kept_of_keepsN1 h fun hn => ⟨HState.sumToVA_ordinary hn, HState.sumToVA_keep_n1 hn⟩
  case h0_11_1 => exact kept_of_keepsN1 h HState.sumToOffset_ordinary
  case h0_10_1 => exact kept_of_writesN1 h HState.sumThroughVA_ordinary (by simp [n1Orders])
  case h0_10_2 => exact kept_of_writesN1 h HState.loadThroughVB_ordinary (by simp [n1Orders])
  case h0_10_3 => exact kept_of_writesN1 h HState.loadThroughVC_ordinary (by simp [n1Orders])
  case h0_11_2 | h0_11_3 => exact kept_of_writesN1 h HState.sumNaming_ordinary (by simp [n1Orders])
  case h0_10_6 | h0_11_6 | h0_10_7 | h0_11_7 => exact kept_of_writesN1 h HState.sumToVA_ordinary (by simp [n1Orders])
  case a00 | a01 | a02 | a03 | a04 | a05 | a06 => exact kept_of_argus h fun hn => (AState.storeToAcc_ordinary hn).kept
  case a10 | a11 | a12 | a13 | a14 | a15 | a16 => exact kept_of_argus h fun hn => (AState.accToStore_ordinary hn).kept
  case a40 | a41 | a42 | a43 | a44 | a45 | a46 => exact kept_of_argus h fun hn => (AState.constantToAcc_ordinary hn).kept
  case a20 => exact kept_of_argus h fun hn => (AState.multiply_ordinary hn).kept
  case a21 => exact kept_of_argus h fun hn => (AState.multiplyRounded_ordinary hn).kept
  case a24 => exact kept_of_argus h fun hn => (AState.divide_ordinary hn).kept
  case a25 => exact kept_of_argus h fun hn => (AState.divideRounded_ordinary hn).kept
  case a26 => exact kept_of_argus h fun hn => (AState.divideRoundedAlone_ordinary hn).kept
  case a30 | a31 => exact kept_of_argus h fun hn => (AState.selectInput_ordinary .setReg20 hn).kept
  case a32 => exact kept_of_argus h fun hn => (AState.selectInput_ordinary .setReg22 hn).kept
  case a50 => exact kept_of_argus h fun hn => (AState.shiftAccArith_ordinary hn).kept
  case a51 => exact kept_of_argus h fun hn => (AState.shiftAccLogical_ordinary hn).kept
  case a52 => exact kept_of_argus h fun hn => (AState.shiftDoubleArith_ordinary hn).kept
  case a53 => exact kept_of_argus h fun hn => (AState.shiftDoubleLogical_ordinary hn).kept
  case a54 => exact kept_of_argus h fun hn => (AState.normaliseP_ordinary hn).kept
  case a55 => exact kept_of_argus h fun hn => (AState.normalisePQ_ordinary hn).kept
  case a60 | a61 | a62 | a63 => exact kept_of_argus h fun hn => (AState.jumpOnAcc_ordinary hn).kept
  case a73 | a74 => exact kept_of_argus h fun hn => (AState.jumpOnTypewriter_ordinary hn).kept
  case a71 | a72 =>
    refine kept_of_argus h fun hn => AState.Ordinary.kept ?_
    cases hn
    exact .jumpTo _
  case a64 n x m => exact kept_of_argus h (AState.jumpOnOverflow_kept ⟨n, x, m, .inl rfl⟩)
  case a65 n x m => exact kept_of_argus h (AState.jumpOnOverflow_kept ⟨n, x, m, .inr rfl⟩)
  case a66 n x m => exact kept_of_argus h (AState.countingJump_kept ⟨n, x, m, .inl rfl⟩)
  case a67 n x m => exact kept_of_argus h (AState.countingJump_kept ⟨n, x, m, .inr rfl⟩)
  case a70 n x m => exact kept_of_argus h (AState.jumpStoringLink_kept ⟨n, x, m, rfl⟩)
  case a77 n x m =>
    refine kept_of_argus h fun hn => ?_
    cases hn
    exact AState.stop_kept ⟨n, x, m, rfl⟩
  case h0_10_4 | h0_11_4 | h0_10_5 | h0_11_5 | h0_2x | h0_3x | h1xx | h2xx | h3xx | h4xx | h5xx | h6xx | h7xx
    | a07 | a17 | a22 | a23 | a27 | a33 | a34 | a35 | a36 | a37 | a47 | a56 | a57 | a75 | a76 => exact kept_of_refused h

end

/-! ### Every step -/

/-- A relation that composes, holds across every order, every record and every interruption entry, holds across every step. -/
theorem step_relates {R : State → State → Prop} (trans : ∀ {s u t}, R s u → R u t → R s t)
    (order : ∀ {i s t}, exec i s = .next t → R s t) (record : ∀ s es, R s (s.withA (s.a.record es)))
    (entry : ∀ s e, R s (s.withA (s.a.takeInterruption e))) {s t : State} (h : step s = .next t) : R s t := by
  have obeyed {m : MachineId} {s t : State} (hn : s.obeyNext m = .next t) : R s t := by
    obtain ⟨w, -, hexec⟩ := State.obeyNext_eq_next.1 hn
    exact order hexec
  rcases State.stepRunning_eq_next h with ⟨-, hn⟩ | ⟨-, hn⟩ | ⟨-, hn⟩
  · exact obeyed hn
  · exact obeyed hn
  · obtain ⟨-, ⟨-, hn⟩ | ⟨e, -, ⟨-, rfl⟩ | ⟨-, hn⟩⟩⟩ := State.stepArgus_eq_next hn
    · exact obeyed hn
    · exact trans (record s [.interruption true]) (entry _ e)
    · exact trans (record s [.interruption false]) (obeyed hn)

/-- Every order keeps the invariant. -/
theorem exec_inv {i : Instr} {s t : State} (hs : s.Inv) (h : exec i s = .next t) : t.Inv := by
  obtain ⟨hc, hp, hh, ha⟩ := hs
  obtain ⟨hcfg, -⟩ := machinesHaveDisjointState i s t h
  have hk := exec_kept h
  rw [State.Inv, hcfg]
  exact ⟨hc, hk.p.wf hc hp, hk.h.wf hh, hk.a.wf ha⟩

/-- Settles O9: every order keeps the invariant (`exec_inv`), and a record or an interruption entry touches none of its parts. -/
theorem stepKeepsTheInvariant : Obligations.StepKeepsTheInvariant := by
  intro s t hs h
  exact step_relates (R := fun s t => s.Inv → t.Inv) (fun h1 h2 => h2 ∘ h1) (fun hn hs => exec_inv hs hn)
    (fun _ _ => id) (fun _ _ => id) h hs

/-- Settles O12: no order writes them, nor does an interruption. -/
theorem programsAndOuterRegistersNeverChange : Obligations.ProgramsAndOuterRegistersNeverChange := by
  intro s t h
  refine step_relates (R := fun s t => t.p.fps = s.p.fps ∧ t.h.prog = s.h.prog ∧ t.a.prog = s.a.prog ∧ t.p.ds = s.p.ds ∧
    t.p.l = s.p.l ∧ t.p.mu = s.p.mu ∧ t.p.alpha = s.p.alpha ∧ t.p.kappa = s.p.kappa ∧ t.p.q = s.p.q) ?trans ?order ?record ?entry h
  case trans => intro s u t h1 h2; simp [h1, h2]
  case order => intro i s t hn; have hk := exec_kept hn; simp [hk.p.fixed, hk.h.prog, hk.a.prog]
  case record => simp
  case entry => simp

/-- Settles O13: every order and every interruption only appends; who punches is read off `PState.Kept`. -/
theorem recordsOnlyGrow : Obligations.RecordsOnlyGrow := by
  refine ⟨fun s t h => ?_, fun i s t h => (exec_kept h).p.punchedBy⟩
  refine step_relates (R := fun s t => s.p.punch <+: t.p.punch ∧ s.p.history <+: t.p.history ∧
    s.h.history <+: t.h.history ∧ s.a.history <+: t.a.history) ?trans ?order ?record ?entry h
  case trans =>
    rintro s u t ⟨h1, h2, h3, h4⟩ ⟨k1, k2, k3, k4⟩
    exact ⟨h1.trans k1, h2.trans k2, h3.trans k3, h4.trans k4⟩
  case order => intro i s t hn; have hk := exec_kept hn; exact ⟨hk.p.punch, hk.p.history, hk.h.history, hk.a.history⟩
  case record => simp
  case entry => simp

/-- Settles O6: 77 computes to its next state, what every order keeps names the one that sets A.halted, and a step of a halted Argus
stops before the fetch. -/
theorem haltedIsSetBy77AndEndsTheRun : Obligations.HaltedIsSetBy77AndEndsTheRun := by
  refine ⟨rfl, fun s n x m => by simp only [exec]; rfl, fun i s t h h0 h1 => (exec_kept h).a.halted (by simp [h0, h1]),
    fun s t h => ?_, fun s hr hh => by simp [step, State.stepRunning, State.stepArgus, hr, hh]⟩
  exact step_relates (R := fun s t => s.a.halted = true → t.a.halted = true) (fun h1 h2 => h2 ∘ h1)
    (fun hn => (exec_kept hn).a.stays) (by simp) (by simp) h

/-- Settles O14: the two OVR clauses of what every order keeps. -/
theorem overflowIndicatorsAreKept : Obligations.OverflowIndicatorsAreKept :=
  fun _ _ _ h => ⟨(exec_kept h).p.ovr, (exec_kept h).a.ovr⟩

/-- Settles O15: each clause of what every order keeps names the orders that write its register. -/
theorem onlyNamedOrdersWriteTheAddressRegisters : Obligations.OnlyNamedOrdersWriteTheAddressRegisters := by
  intro i s t h
  obtain ⟨hp, hh, ha⟩ := exec_kept h
  exact ⟨ha.link, ha.mod, hh.n1, hp.n, hp.lambda, hp.mode⟩

end Sys2Proof.Machine
end

section
/-! PROOFS. The fetch (spec/10_state.md R27, spec/60_exceptions.md R400, R406), the Argus operands read off the modifiers and the
accumulators (spec/10_state.md R50 to R55, spec/20_memory.md R86, R87), and the input orders (spec/46_argus_input.md R330). -/

namespace Sys2Proof.Machine

/-! ### A fetch that fails -/

theorem loadedOrder_of_none {p : Program} {e : Nat} (h : Cells.read? p e = none) : loadedOrder p e = .refused .unwrittenOrder := by
  simp [loadedOrder, h]

theorem State.obeyNext_of_fault {s : State} {m : MachineId} {e : Fault} (h : s.fetch m = .fault e) :
    s.obeyNext m = .fault e := by
  simp [State.obeyNext, h]

theorem State.obeyNext_of_refused {s : State} {m : MachineId} {e : Refusal} (h : s.fetch m = .refused e) :
    s.obeyNext m = .refused e := by
  simp [State.obeyNext, h]

theorem step_of_poseidon {s : State} (h : s.running = .poseidon) : step s = s.obeyNext .poseidon := by
  simp [step, State.stepRunning, h]

theorem step_of_hermes {s : State} (h : s.running = .hermes) : step s = s.obeyNext .hermes := by
  simp [step, State.stepRunning, h]

/-- Without A_INT a step of an Argus that is not halted is the ordinary one. -/
theorem step_of_argus {s : State} (h : s.running = .argus) (hh : s.a.halted = false) (hi : s.cfg.aInt = none) :
    step s = s.obeyNext .argus := by
  simp [step, State.stepRunning, State.stepArgus, AState.interruptionEntry, h, hh, hi]

/-- Settles O5: each step is the ordinary one, whose fetch stops. -/
theorem stepStopsWhereNothingCanBeFetched : Obligations.StepStopsWhereNothingCanBeFetched := by
  intro s
  refine ⟨fun hr hpc => ?_, fun hr hpc => ?_, fun hr hpc hw => ?_, fun hr hpc hw => ?_, fun hr hh hi hw => ?_,
    State.stepRunning_of_apollo, fun _ _ => rfl⟩
  · exact (step_of_poseidon hr).trans (State.obeyNext_of_fault (by simp [State.fetch, hpc]))
  · exact (step_of_hermes hr).trans (State.obeyNext_of_fault (by simp [State.fetch, hpc]))
  · refine (step_of_poseidon hr).trans (State.obeyNext_of_refused ?_)
    rw [State.fetch, if_neg (Nat.not_le.2 hpc), loadedOrder_of_none hw]
  · refine (step_of_hermes hr).trans (State.obeyNext_of_refused ?_)
    rw [State.fetch, if_neg (Nat.not_le.2 hpc), loadedOrder_of_none hw]
  · exact (step_of_argus hr hh hi).trans (State.obeyNext_of_refused (loadedOrder_of_none hw))

/-! ### Modifiers and constants -/

theorem AState.effectiveN_toNat (c : Config) (a : AState) (n : Addr13) (m : BitVec 2) :
    (a.effectiveN c n m).toNat = (n.toNat + (a.modifier c m).toNat) % 8192 := BitVec.toNat_add ..

/-- The signed value of a 13-bit address. -/
theorem addr13_toInt (n : Addr13) : n.toInt = if n.toNat < 4096 then (n.toNat : Int) else (n.toNat : Int) - 8192 := by
  rw [BitVec.toInt_eq_toNat_cond]
  split <;> split <;> omega

theorem natCast_trunc (w : Nat) (i : Int) : ((trunc w i : Nat) : Int) = i % ((2 ^ w : Nat) : Int) :=
  Int.toNat_of_nonneg (Int.emod_nonneg _ (by exact_mod_cast (Nat.two_pow_pos w).ne'))

/-- Settles O40: the modifier of each M under the standard map, and the value of a 13-bit word under either extension. -/
theorem argusModifiersAndConstants : Obligations.ArgusModifiersAndConstants := by
  intro c a n x hmap
  have hmodifier : a.modifier c 0 = 0 ∧ a.modifier c 1 = a.mod[0] ∧ a.modifier c 2 = a.mod[1] ∧ a.modifier c 3 = a.mod[2] := by
    simp only [AState.modifier, hmap]
    exact ⟨rfl, rfl, rfl, rfl⟩
  obtain ⟨h0, h1, h2, h3⟩ := hmodifier
  have hplain : a.effectiveN c n 0 = n := by rw [AState.effectiveN, h0]; exact BitVec.add_zero n
  refine ⟨hplain, ?_, ?_, ?_, fun he => ?_, fun he => ?_, ?_⟩
  · rw [AState.effectiveN_toNat, h1]
  · rw [AState.effectiveN_toNat, h2]
  · rw [AState.effectiveN_toNat, h3]
  · rw [constantOperand, he, extend13, trunc_natCast]
  · rw [constantOperand, he, extend13, natCast_trunc, addr13_toInt]
  · rw [AState.places, hplain, addr13_toInt]

/-! ### Accumulators -/

section
variable {c : Config} {a : AState} {x : BitVec 3}

theorem AState.xval_of_short (h : x.toNat < 6) : a.xval c x = a.x[x.toNat] := dif_pos h

theorem AState.setx_of_short (h : x.toNat < 6) (v : Nat) : a.setx c x v = { a with x := a.x.set x.toNat v } := dif_pos h

/-- P written is P read: its two words come apart and together again. -/
theorem AState.pval_setp (v : Nat) : (a.setp c v).pval c = v := by
  simp [AState.pval, pairValue_pairFirst_pairSecond]

theorem AState.qval_setq (v : Nat) : (a.setq c v).qval c = v := pairValue_pairFirst_pairSecond ..

theorem AState.pqval_setpq (v : Nat) : (a.setpq c v).pqval c = v := by
  have hp : (a.setpq c v).pval c = pairFirst c.aLongOrder (2 * c.aW) v := AState.pval_setp _
  have hq : (a.setpq c v).qval c = pairSecond c.aLongOrder (2 * c.aW) v := AState.qval_setq _
  rw [AState.pqval, hp, hq, pairValue_pairFirst_pairSecond]

/-- An accumulator written is the one read, short or long. -/
theorem AState.xval_setx (v : Nat) : (a.setx c x v).xval c x = v := by
  by_cases hx : x.toNat < 6
  · simp [AState.xval_of_short hx, AState.setx_of_short hx]
  · by_cases h6 : x = 6#3
    · subst h6; exact AState.qval_setq v
    · simp only [AState.xval, AState.setx, dif_neg hx, if_neg h6]
      exact AState.pval_setp v

end

/-- Settles O41: the pairs come apart and together again, and X = 0 to 5 is one word. -/
theorem argusAccumulators : Obligations.ArgusAccumulators := by
  intro c a _ ho
  refine ⟨?_, ?_, rfl, ?_, fun _ v _ => AState.xval_setx v, fun v => ⟨?_, rfl⟩, fun v => ?_,
    fun v _ => AState.pqval_setpq v, fun k v => ?_⟩
  · show pairValue .. = _; rw [ho, pairValue]
  · show pairValue .. = _; rw [ho, pairValue]
  · show pairValue .. = _; rw [ho, pairValue]; rfl
  · show AState.setp .. = _; rw [AState.setp, ho, pairFirst, pairSecond]
  · show AState.setq .. = _; rw [AState.setq, ho, pairFirst, pairSecond]
  · have hk : (BitVec.ofNat 3 k).toNat = k := by have := k.isLt; rw [BitVec.toNat_ofNat]; omega
    have hlt : (BitVec.ofNat 3 k).toNat < 6 := by rw [hk]; exact k.isLt
    rw [AState.setx_of_short hlt, AState.xval_of_short hlt]
    simp [hk]

/-! ### Input -/

/-- Functions 30 to 32 once A_IOREG is supplied: a delivery, the record, and the next order. -/
theorem AState.selectInput_of_some {c : Config} {regs : IoRegisters} (hregs : c.aIoReg = some regs) (fn : BitVec 6)
    (place : IoRegisters → IoPlace) (own : Nat → AState → AState) (n : Addr13) (m : BitVec 2) (a : AState) :
    AState.selectInput fn place own n m c a = Result.andThen (a.deliverTo c (place regs) own (a.inputWord c)) fun a1 =>
      .next (a1.record [.input fn (a.effectiveN c n m) (a.inputWord c)]).advance := by
  simp [AState.selectInput, hregs]

/-- What an input order answers for each place of its register. -/
theorem selectInput_places {s : State} {regs : IoRegisters} (hregs : s.cfg.aIoReg = some regs) (fn : BitVec 6)
    (place : IoRegisters → IoPlace) (own : Nat → AState → AState) (n : Addr13) (m : BitVec 2) :
    let v := s.a.inputWord s.cfg
    let next := fun a : AState => .next (s.withA (a.record [.input fn (s.a.effectiveN s.cfg n m) v]).advance)
    let outcome := s.onArgus (AState.selectInput fn place own n m)
    (place regs = .ownCell → outcome = next (own v s.a)) ∧
    (∀ i, place regs = .accumulator i → outcome = next { s.a with x := s.a.x.set i v }) ∧
    (∀ e, place regs = .shortAddress e → e.toNat < s.cfg.aStoreSize → outcome = next (s.a.putS e.toNat v)) ∧
    (∀ e, place regs = .shortAddress e → s.cfg.aStoreSize ≤ e.toNat → outcome = .fault .argusStoreOutside) := by
  simp only [State.onArgus, AState.selectInput_of_some hregs]
  refine ⟨fun h => ?_, fun i h => ?_, fun e h hlt => ?_, fun e h hge => ?_⟩
  · simp [h, AState.deliverTo]
  · simp [h, AState.deliverTo]
  · simp [h, AState.deliverTo, Nat.not_le.2 hlt]
  · simp [h, AState.deliverTo, hge]

/-- Settles O49: each of the three orders is `selectInput` with its register's place and cell. -/
theorem argusInput : Obligations.ArgusInput := by
  intro s n x m regs hregs v o ho
  simp only [List.mem_cons, List.not_mem_nil, or_false] at ho
  rcases ho with rfl | rfl | rfl
  · exact selectInput_places hregs 0o30#6 IoRegisters.reg20 AState.setReg20 n m
  · exact selectInput_places hregs 0o31#6 IoRegisters.reg20 AState.setReg20 n m
  · exact selectInput_places hregs 0o32#6 IoRegisters.reg22 AState.setReg22 n m

end Sys2Proof.Machine
end

section
/-! PROOFS. A fetch that finds an order (spec/20_memory.md R70, R76, R82, spec/60_exceptions.md R406): the step obeys it. -/

namespace Sys2Proof.Machine

theorem State.obeyNext_of_next {s : State} {m : MachineId} {w : Order} (h : s.fetch m = .next w) :
    s.obeyNext m = exec (decode m w) s := by
  simp [State.obeyNext, h]

/-- Settles O4: each step is the ordinary one, whose fetch finds the loaded word. -/
theorem stepRunsTheDecodedOrder : Obligations.StepRunsTheDecodedOrder := by
  intro s w
  refine ⟨fun hr hpc hw => ?_, fun hr hpc hw => ?_, fun hr hh hi hw => ?_⟩
  · refine (step_of_poseidon hr).trans (State.obeyNext_of_next ?_)
    rw [State.fetch, if_neg (Nat.not_le.2 hpc), loadedOrder_eq_next.2 hw]
  · refine (step_of_hermes hr).trans (State.obeyNext_of_next ?_)
    rw [State.fetch, if_neg (Nat.not_le.2 hpc), loadedOrder_eq_next.2 hw]
  · exact (step_of_argus hr hh hi).trans (State.obeyNext_of_next (loadedOrder_eq_next.2 hw))

end Sys2Proof.Machine
end

section
/-! PROOFS. The Hermes operands and addresses as numbers (spec/20_memory.md R77, spec/42_hermes_f0.md R200, R202), and the orders that
store or load through N1 (R232 to R234, R236). -/

namespace Sys2Proof.Machine

/-! ### A 5-bit field widened -/

/-- The signed value of a 5-bit field. -/
theorem field5_toInt (f : Field5) : f.toInt = if f.toNat < 16 then (f.toNat : Int) else (f.toNat : Int) - 32 := by
  rw [BitVec.toInt_eq_toNat_cond]
  split <;> split <;> omega

theorem field5_lt_two_pow {w : Nat} (hw : 5 ≤ w) (f : Field5) : f.toNat < 2 ^ w :=
  f.isLt.trans_le (Nat.pow_le_pow_right (by norm_num) hw)

theorem extend5_zero {w : Nat} (hw : 5 ≤ w) (f : Field5) : extend5 .zero w f = f.toNat :=
  trunc_of_lt (field5_lt_two_pow hw f)

theorem extend5_sign {w : Nat} (hw : 5 ≤ w) (f : Field5) :
    extend5 .sign w f = if f.toNat < 16 then f.toNat else 2 ^ w - (32 - f.toNat) := by
  have h32 : 2 ^ 5 ≤ 2 ^ w := Nat.pow_le_pow_right (by norm_num) hw
  have hf := f.isLt
  rw [extend5, field5_toInt]
  split
  · exact trunc_of_lt (field5_lt_two_pow hw f)
  · have hcast : (f.toNat : Int) - 32 + ((2 ^ w : Nat) : Int) = ((2 ^ w - (32 - f.toNat) : Nat) : Int) := by omega
    rw [← trunc_add_two_pow, hcast]
    exact trunc_of_lt (by omega)

/-- A field widened with its sign keeps its signed value. -/
theorem sval_extend5_sign {w : Nat} (hw : 5 ≤ w) (f : Field5) : sval w (extend5 .sign w f) = f.toInt := by
  have h16 : 2 ^ 4 ≤ 2 ^ (w - 1) := Nat.pow_le_pow_right (by norm_num) (by omega)
  have hf := f.isLt
  refine sval_trunc_of_fits (by omega) (decide_eq_true ?_)
  rw [field5_toInt]
  split <;> omega

theorem natCast_offsetAddress_of_sign {c : Config} (h : HState) (f : Field5) (he : c.hAoffExt = .sign) :
    (h.offsetAddress c f : Int) = ((h.n1 : Int) + f.toInt) % ((2 ^ c.hAW : Nat) : Int) := by
  rw [HState.offsetAddress, he, extend5, Int.natCast_mod, Nat.cast_add, natCast_trunc, Int.add_emod_emod]

/-- Settles O60: each widening of a field as a number, and the relative target modulo 2^H_AW. -/
theorem hermesFieldsAsNumbers : Obligations.HermesFieldsAsNumbers := by
  intro c h f hW hAW
  simp only [← field5_toInt]
  refine ⟨fun he => ?_, fun he => ⟨?_, ?_⟩, fun he => ?_, natCast_offsetAddress_of_sign h f, fun hb => ?_, fun hb => ?_, rfl⟩
  · rw [HState.thirdWord, he, extend5_zero hW]
  · rw [HState.thirdWord, he, extend5_sign hW]
  · rw [HState.thirdWord, he, sval_extend5_sign hW]
  · rw [HState.offsetAddress, he, extend5_zero hAW]
  · simp [HState.jumpAddress, hb, natCast_trunc]
  · simp [HState.jumpAddress, hb, natCast_trunc]

/-! ### Reads, sums and writes that answer, and those that stop -/

section
variable {c : Config} {h : HState}

/-- A field names a word of any store of at least 32 words. -/
theorem HState.readV_field (hs : 32 ≤ c.hStoreSize) (which : Nat) (f : Field5) :
    h.readV c which f.toNat = .next (h.word c which f.toNat) :=
  readV_eq_next.2 ⟨f.isLt.trans_le hs, rfl⟩

theorem HState.target1_field (hs : 32 ≤ c.hStoreSize) (f : Field5) :
    h.target1 c f = .next ⟨(h.word c 0 f.toNat).val % 2 ^ c.hAW, (h.word c 0 f.toNat).events⟩ :=
  target1_eq_next.2 ⟨f.isLt.trans_le hs, rfl⟩

theorem HState.readV_outside {e : Nat} (he : c.hStoreSize ≤ e) (which : Nat) : h.readV c which e = .fault .hermesStoreOutside :=
  if_pos he

theorem HState.writeV_outside {e : Nat} (he : c.hStoreSize ≤ e) (v : Nat) : h.writeV c e v = .fault .hermesStoreOutside :=
  if_pos he

theorem HState.sumOf_allowed {u v : Read} (ht : SumAllowed c (trueSum c u v)) :
    HState.sumOf c (.next u) (.next v) = .next ⟨trunc c.hW (trueSum c u v), u.events ++ v.events⟩ :=
  sumOf_eq_next.2 ⟨u, v, rfl, rfl, ht, rfl⟩

theorem sumH_of_refused {u v : Nat} (hfit : sumFits c u v = false) (ho : c.hOverflow = .refuse) :
    sumH c u v = .refused .hermesSumOverflows := by
  simp [sumH, hfit, ho]

theorem HState.sumOf_refused {u v : Read} (ht : SumRefused c (trueSum c u v)) :
    HState.sumOf c (.next u) (.next v) = .refused .hermesSumOverflows := by
  simp [HState.sumOf, sumH_of_refused ht.1 ht.2]

/-- The sum of the words that the fields B and C name. -/
theorem HState.sumOf_words_allowed (hs : 32 ≤ c.hStoreSize) {fb fc : Field5}
    (ht : SumAllowed c (trueSum c (h.word c 1 fb.toNat) (h.word c 2 fc.toNat))) :
    HState.sumOf c (h.readV c 1 fb.toNat) (h.readV c 2 fc.toNat) =
      .next ⟨trunc c.hW (trueSum c (h.word c 1 fb.toNat) (h.word c 2 fc.toNat)),
        (h.word c 1 fb.toNat).events ++ (h.word c 2 fc.toNat).events⟩ := by
  rw [readV_field hs, readV_field hs, sumOf_allowed ht]

theorem HState.sumOf_words_refused (hs : 32 ≤ c.hStoreSize) {fb fc : Field5}
    (ht : SumRefused c (trueSum c (h.word c 1 fb.toNat) (h.word c 2 fc.toNat))) :
    HState.sumOf c (h.readV c 1 fb.toNat) (h.readV c 2 fc.toNat) = .refused .hermesSumOverflows := by
  rw [readV_field hs, readV_field hs, sumOf_refused ht]

/-- The next order in sequence. -/
theorem HState.nextPc_eq_mod (c : Config) (h : HState) : h.nextPc c = (h.pc + 1) % 2 ^ c.hAW := trunc_natCast _ (h.pc + 1)

/-- What an order that stores `v` at `e`, sets N1 and goes on leaves. -/
theorem HState.advance_record_setN1_putV (e v n1 : Nat) (es : List Event) :
    (((h.putV e v).setN1 n1).record es).advance c =
      { h with v := Cells.write h.v e v, n1 := n1, pc := (h.pc + 1) % 2 ^ c.hAW, history := h.history ++ es } := by
  rw [← HState.nextPc_eq_mod]
  rfl

theorem HState.advance_record_putV (e v : Nat) (es : List Event) :
    ((h.putV e v).record es).advance c =
      { h with v := Cells.write h.v e v, pc := (h.pc + 1) % 2 ^ c.hAW, history := h.history ++ es } := by
  rw [← HState.nextPc_eq_mod]
  rfl

end

/-! ### Stores through N1 -/

section
variable {c : Config} {h : HState} {fa fb fc : Field5} {r : Read}

/-- H0.10.1 where the sum is answered and the address in VA lies in the store. -/
theorem HState.sumThroughVA_inside (hs : 32 ≤ c.hStoreSize)
    (hr : HState.sumOf c (h.readV c 1 fb.toNat) (h.readV c 2 fc.toNat) = .next r)
    (he : (h.word c 0 fa.toNat).val % 2 ^ c.hAW < c.hStoreSize) :
    HState.sumThroughVA fa fb fc c h = .next { h with
      v := Cells.write h.v ((h.word c 0 fa.toNat).val % 2 ^ c.hAW) r.val
      n1 := (h.word c 0 fa.toNat).val % 2 ^ c.hAW
      pc := (h.pc + 1) % 2 ^ c.hAW
      history := h.history ++ (r.events ++ (h.word c 0 fa.toNat).events) } :=
  sumThroughVA_eq_next.2 ⟨r, _, hr, target1_field hs fa, he, (advance_record_setN1_putV ..).symm⟩

theorem HState.sumThroughVA_outside (hs : 32 ≤ c.hStoreSize)
    (hr : HState.sumOf c (h.readV c 1 fb.toNat) (h.readV c 2 fc.toNat) = .next r)
    (he : c.hStoreSize ≤ (h.word c 0 fa.toNat).val % 2 ^ c.hAW) :
    HState.sumThroughVA fa fb fc c h = .fault .hermesStoreOutside := by
  simp [sumThroughVA, hr, target1_field hs, writeV_outside he]

/-- H0.11.1 where the sum is answered and N1 + A lies in the store. -/
theorem HState.sumToOffset_inside (hr : HState.sumOf c (h.readV c 1 fb.toNat) (h.readV c 2 fc.toNat) = .next r)
    (he : h.offsetAddress c fa < c.hStoreSize) :
    HState.sumToOffset fa fb fc c h = .next { h with
      v := Cells.write h.v (h.offsetAddress c fa) r.val
      pc := (h.pc + 1) % 2 ^ c.hAW
      history := h.history ++ r.events } :=
  sumToOffset_eq_next.2 ⟨r, hr, he, (advance_record_putV ..).symm⟩

theorem HState.sumToOffset_outside (hr : HState.sumOf c (h.readV c 1 fb.toNat) (h.readV c 2 fc.toNat) = .next r)
    (he : c.hStoreSize ≤ h.offsetAddress c fa) : HState.sumToOffset fa fb fc c h = .fault .hermesStoreOutside := by
  simp [sumToOffset, hr, writeV_outside he]

/-- A refused sum of VB and VC refuses the order, whatever its address. -/
theorem HState.sumThroughVA_refused {e : Refusal}
    (hr : HState.sumOf c (h.readV c 1 fb.toNat) (h.readV c 2 fc.toNat) = .refused e) :
    HState.sumThroughVA fa fb fc c h = .refused e := by
  simp [sumThroughVA, hr]

theorem HState.sumToOffset_refused {e : Refusal}
    (hr : HState.sumOf c (h.readV c 1 fb.toNat) (h.readV c 2 fc.toNat) = .refused e) :
    HState.sumToOffset fa fb fc c h = .refused e := by
  simp [sumToOffset, hr]

end

/-- Settles O37: the outcomes of `sumThroughVA` and `sumToOffset`, lifted to the whole state. -/
theorem hermesStoresThroughN1 : Obligations.HermesStoresThroughN1 := by
  intro s a b c hs va vb vc t through offset
  have hsum (ht : SumAllowed s.cfg t) : HState.sumOf s.cfg (s.h.readV s.cfg 1 b.toNat) (s.h.readV s.cfg 2 c.toNat) =
      .next ⟨trunc s.cfg.hW t, vb.events ++ vc.events⟩ := HState.sumOf_words_allowed hs ht
  refine ⟨fun ht he => ?_, fun ht he => ?_, fun ht he => ?_, fun ht he => ?_, fun ht => ⟨?_, ?_⟩⟩
  · exact State.onHermes_eq_next.2 ⟨_, HState.sumThroughVA_inside hs (hsum ht) he, rfl⟩
  · exact State.onHermes_eq_fault.2 (HState.sumThroughVA_outside hs (hsum ht) he)
  · exact State.onHermes_eq_next.2 ⟨_, HState.sumToOffset_inside (hsum ht) he, rfl⟩
  · exact State.onHermes_eq_fault.2 (HState.sumToOffset_outside (hsum ht) he)
  · exact State.onHermes_eq_refused.2 (HState.sumThroughVA_refused (HState.sumOf_words_refused hs ht))
  · exact State.onHermes_eq_refused.2 (HState.sumToOffset_refused (HState.sumOf_words_refused hs ht))

/-! ### Loads through N1 -/

section
variable {c : Config} {h : HState} {fa fb fc : Field5} {i : Indirect} {r : Read}

/-- The word that field `f` names holds the address of a location of the store. -/
theorem HState.readThrough_inside (hs : 32 ≤ c.hStoreSize) {which : Nat} {f : Field5}
    (he : (h.word c which f.toNat).val % 2 ^ c.hAW < c.hStoreSize) :
    h.readThrough c which f = .next ⟨(h.word c which f.toNat).val % 2 ^ c.hAW,
      ⟨(h.word c 3 ((h.word c which f.toNat).val % 2 ^ c.hAW)).val,
        (h.word c which f.toNat).events ++ (h.word c 3 ((h.word c which f.toNat).val % 2 ^ c.hAW)).events⟩⟩ :=
  readThrough_eq_next.2 ⟨f.isLt.trans_le hs, he, rfl⟩

theorem HState.readThrough_outside (hs : 32 ≤ c.hStoreSize) {which : Nat} {f : Field5}
    (he : c.hStoreSize ≤ (h.word c which f.toNat).val % 2 ^ c.hAW) :
    h.readThrough c which f = .fault .hermesStoreOutside := by
  simp [readThrough, readV_field hs, toHermesAddress, readV_outside he]

/-- H0.10.2 where VB names a location of the store and the sum is answered. -/
theorem HState.loadThroughVB_inside (hs : 32 ≤ c.hStoreSize) (hi : h.readThrough c 1 fb = .next i)
    (hr : HState.sumOf c (.next i.read) (h.readV c 2 fc.toNat) = .next r) :
    HState.loadThroughVB fa fb fc c h = .next { h with
      v := Cells.write h.v fa.toNat r.val
      n1 := i.n1
      pc := (h.pc + 1) % 2 ^ c.hAW
      history := h.history ++ r.events } :=
  loadThroughVB_eq_next.2 ⟨i, r, hi, hr, fa.isLt.trans_le hs, (advance_record_setN1_putV ..).symm⟩

theorem HState.loadThroughVB_outside {e : Fault} (hi : h.readThrough c 1 fb = .fault e) :
    HState.loadThroughVB fa fb fc c h = .fault e := by
  simp [loadThroughVB, hi]

theorem HState.loadThroughVB_refused {e : Refusal} (hi : h.readThrough c 1 fb = .next i)
    (hr : HState.sumOf c (.next i.read) (h.readV c 2 fc.toNat) = .refused e) :
    HState.loadThroughVB fa fb fc c h = .refused e := by
  simp [loadThroughVB, hi, hr]

/-- H0.10.3 where VC names a location of the store and the sum is answered. -/
theorem HState.loadThroughVC_inside (hs : 32 ≤ c.hStoreSize) (hi : h.readThrough c 2 fc = .next i)
    (hr : HState.sumOf c (h.readV c 1 fb.toNat) (.next i.read) = .next r) :
    HState.loadThroughVC fa fb fc c h = .next { h with
      v := Cells.write h.v fa.toNat r.val
      n1 := i.n1
      pc := (h.pc + 1) % 2 ^ c.hAW
      history := h.history ++ r.events } :=
  loadThroughVC_eq_next.2 ⟨i, r, hi, hr, fa.isLt.trans_le hs, (advance_record_setN1_putV ..).symm⟩

theorem HState.loadThroughVC_outside {e : Fault} (hi : h.readThrough c 2 fc = .fault e) :
    HState.loadThroughVC fa fb fc c h = .fault e := by
  simp [loadThroughVC, hi]

theorem HState.loadThroughVC_refused {e : Refusal} (hi : h.readThrough c 2 fc = .next i)
    (hr : HState.sumOf c (h.readV c 1 fb.toNat) (.next i.read) = .refused e) :
    HState.loadThroughVC fa fb fc c h = .refused e := by
  simp [loadThroughVC, hi, hr]

end

/-- Settles O38: the outcomes of `loadThroughVB` and `loadThroughVC`, lifted to the whole state. The address is read before the sum
is made, so it decides between stuck and refused. -/
theorem hermesLoadsThroughN1 : Obligations.HermesLoadsThroughN1 := by
  intro s a b c hs vb vc nb nc vnb vnc
  let ib : Indirect := ⟨nb, ⟨vnb.val, vb.events ++ vnb.events⟩⟩
  let ic : Indirect := ⟨nc, ⟨vnc.val, vc.events ++ vnc.events⟩⟩
  have hib (he : nb < s.cfg.hStoreSize) : s.h.readThrough s.cfg 1 b = .next ib := HState.readThrough_inside hs he
  have hic (he : nc < s.cfg.hStoreSize) : s.h.readThrough s.cfg 2 c = .next ic := HState.readThrough_inside hs he
  have hb : s.h.readV s.cfg 1 b.toNat = .next vb := HState.readV_field hs 1 b
  have hc : s.h.readV s.cfg 2 c.toNat = .next vc := HState.readV_field hs 2 c
  refine ⟨fun he ht => ?_, fun he => ?_, fun he ht => ?_, fun he ht => ?_, fun he => ?_, fun he ht => ?_⟩
  · have hr := HState.sumOf_allowed (u := ib.read) ht
    exact State.onHermes_eq_next.2 ⟨_, HState.loadThroughVB_inside hs (hib he) (hc ▸ hr), rfl⟩
  · exact State.onHermes_eq_fault.2 (HState.loadThroughVB_outside (HState.readThrough_outside hs he))
  · have hr := HState.sumOf_refused (u := ib.read) ht
    exact State.onHermes_eq_refused.2 (HState.loadThroughVB_refused (hib he) (hc ▸ hr))
  · have hr := HState.sumOf_allowed (v := ic.read) ht
    exact State.onHermes_eq_next.2 ⟨_, HState.loadThroughVC_inside hs (hic he) (hb ▸ hr), rfl⟩
  · exact State.onHermes_eq_fault.2 (HState.loadThroughVC_outside (HState.readThrough_outside hs he))
  · have hr := HState.sumOf_refused (v := ic.read) ht
    exact State.onHermes_eq_refused.2 (HState.loadThroughVC_refused (hic he) (hb ▸ hr))

/-! ### The one word an order stores to -/

section
variable {c : Config} {h h' : HState} {t : HThird} {fa fb fc : Field5} {e : Nat}

/-- A testing jump leaves the store. -/
theorem HState.testJump_v {j : HJump} {test : HTest} (hn : HState.testJump j t test fa fb fc c h = .next h') : h'.v = h.v := by
  obtain ⟨r, -, ⟨-, d, -, rfl⟩ | ⟨-, rfl⟩⟩ := testJump_eq_next.1 hn
  · simp
  · simp

theorem HState.read?_storeJump {j : HJump} {test : HTest} (hn : HState.storeJump j t test fa fb fc c h = .next h')
    (he : e ≠ fb.toNat) : Cells.read? h'.v e = Cells.read? h.v e := by
  obtain ⟨d, r, -, -, -, rfl⟩ := storeJump_eq_next.1 hn
  simpa using Cells.read?_write_other h.v r.val he

theorem HState.read?_sumToVA {k : N1Step} (hn : HState.sumToVA t k fa fb fc c h = .next h') (he : e ≠ fa.toNat) :
    Cells.read? h'.v e = Cells.read? h.v e := by
  obtain ⟨r, -, -, rfl⟩ := sumToVA_eq_next.1 hn
  simpa using Cells.read?_write_other h.v r.val he

theorem HState.read?_loadThroughVB (hn : HState.loadThroughVB fa fb fc c h = .next h') (he : e ≠ fa.toNat) :
    Cells.read? h'.v e = Cells.read? h.v e := by
  obtain ⟨i, r, -, -, -, rfl⟩ := loadThroughVB_eq_next.1 hn
  simpa using Cells.read?_write_other h.v r.val he

theorem HState.read?_loadThroughVC (hn : HState.loadThroughVC fa fb fc c h = .next h') (he : e ≠ fa.toNat) :
    Cells.read? h'.v e = Cells.read? h.v e := by
  obtain ⟨i, r, -, -, -, rfl⟩ := loadThroughVC_eq_next.1 hn
  simpa using Cells.read?_write_other h.v r.val he

theorem HState.read?_sumNaming {f : Field5} (hn : HState.sumNaming f fa fb fc c h = .next h') (he : e ≠ fa.toNat) :
    Cells.read? h'.v e = Cells.read? h.v e := by
  obtain ⟨r, -, -, rfl⟩ := sumNaming_eq_next.1 hn
  simpa using Cells.read?_write_other h.v r.val he

theorem HState.read?_sumThroughVA (hn : HState.sumThroughVA fa fb fc c h = .next h')
    (he : e ≠ toHermesAddress c (h.word c 0 fa.toNat).val) : Cells.read? h'.v e = Cells.read? h.v e := by
  obtain ⟨r, d, -, hd, -, rfl⟩ := sumThroughVA_eq_next.1 hn
  obtain ⟨-, rfl⟩ := target1_eq_next.1 hd
  simpa using Cells.read?_write_other h.v r.val he

theorem HState.read?_sumToOffset (hn : HState.sumToOffset fa fb fc c h = .next h') (he : e ≠ h.offsetAddress c fa) :
    Cells.read? h'.v e = Cells.read? h.v e := by
  obtain ⟨r, -, -, rfl⟩ := sumToOffset_eq_next.1 hn
  simpa using Cells.read?_write_other h.v r.val he

end

/-- A word that an operation of the Hermes leaves alone is left alone in the state. -/
theorem read?_onHermes {f : Config → HState → Result HState} {s t : State} {e : Nat} (h : s.onHermes f = .next t)
    (hf : ∀ {h'}, f s.cfg s.h = .next h' → Cells.read? h'.v e = Cells.read? s.h.v e) :
    Cells.read? t.h.v e = Cells.read? s.h.v e := by
  obtain ⟨h', hh, rfl⟩ := State.onHermes_eq_next.1 h
  exact hf hh

/-- Settles O39: each order is one of the shapes above. -/
theorem hermesStoreFrame : Obligations.HermesStoreFrame := by
  intro s t a b c
  simp only [List.mem_cons, List.not_mem_nil, or_false]
  refine ⟨?_, ?_, ?_, fun h e he => ?_, fun h e he => ?_⟩
  · rintro o (rfl | rfl | rfl | rfl | rfl | rfl | rfl | rfl) h e <;>
      exact read?_onHermes h fun hn => congrArg (Cells.read? · e) (HState.testJump_v hn)
  · rintro o (rfl | rfl | rfl | rfl | rfl | rfl | rfl | rfl) h e he <;>
      exact read?_onHermes h fun hn => HState.read?_storeJump hn he
  · rintro o (rfl | rfl | rfl | rfl | rfl | rfl | rfl | rfl | rfl | rfl) h e he
    · exact read?_onHermes h fun hn => HState.read?_sumToVA hn he
    · exact read?_onHermes h fun hn => HState.read?_sumToVA hn he
    · exact read?_onHermes h fun hn => HState.read?_loadThroughVB hn he
    · exact read?_onHermes h fun hn => HState.read?_sumNaming hn he
    · exact read?_onHermes h fun hn => HState.read?_loadThroughVC hn he
    · exact read?_onHermes h fun hn => HState.read?_sumNaming hn he
    · exact read?_onHermes h fun hn => HState.read?_sumToVA hn he
    · exact read?_onHermes h fun hn => HState.read?_sumToVA hn he
    · exact read?_onHermes h fun hn => HState.read?_sumToVA hn he
    · exact read?_onHermes h fun hn => HState.read?_sumToVA hn he
  · exact read?_onHermes h fun hn => HState.read?_sumThroughVA hn he
  · exact read?_onHermes h fun hn => HState.read?_sumToOffset hn he

end Sys2Proof.Machine
end

section
/-! PROOFS. The Argus store operand (spec/20_memory.md R80, R81, R85): what it reads and writes, and where it is not there; the constants
of 40 to 46 (spec/44_argus_arith.md R290 to R296); which words of A.S an order can change. -/

namespace Sys2Proof.Machine

/-- A read after a write: the word written at its address, and what stood before at any other. -/
theorem Cells.read?_write {α : Type} (m : Cells α) (e e' : Nat) (v : α) :
    Cells.read? (Cells.write m e v) e' = if e' = e then some v else Cells.read? m e' := by
  split
  · next h => rw [h, Cells.read?_write_same]
  · next h => exact Cells.read?_write_other m v h

/-! ### Operands that are there -/

section
variable {c : Config} {a : AState} {x : BitVec 3}

theorem AState.short_of_written {which e u : Nat} (h : Cells.read? a.s e = some u) : a.short c which e = ⟨u, []⟩ := by
  simp [AState.short, h]

theorem AState.storeOperand_of_short (hx : isLong x = false) (ne : Addr13) : a.storeOperand c x ne = a.short c 1 ne.toNat := by
  simp [AState.storeOperand, hx]

theorem AState.storeOperand_of_long (hx : isLong x = true) (ne : Addr13) :
    a.storeOperand c x ne = ⟨pairValue c.aLongOrder c.aW (a.short c 0 (ne.toNat - 1)).val (a.short c 1 ne.toNat).val,
      (a.short c 0 (ne.toNat - 1)).events ++ (a.short c 1 ne.toNat).events⟩ := by
  simp [AState.storeOperand, hx]

theorem AState.putOperand_s_of_short (hx : isLong x = false) (ne : Addr13) (v : Nat) :
    (a.putOperand c x ne v).s = Cells.write a.s ne.toNat v := by
  simp [AState.putOperand, hx]

theorem AState.putOperand_s_of_long (hx : isLong x = true) (ne : Addr13) (v : Nat) :
    (a.putOperand c x ne v).s = Cells.write (Cells.write a.s (ne.toNat - 1) (pairFirst c.aLongOrder c.aW v)) ne.toNat
      (pairSecond c.aLongOrder c.aW v) := by
  simp [AState.putOperand, hx]

end

/-- Settles O42: a short operand is one word of the store and a long one a pair, the first named word above the second. -/
theorem argusLongOperands : Obligations.ArgusLongOperands := by
  intro c a x ne ho
  refine ⟨fun hx u hu => ?_, fun hx u v hu hv => ?_, fun hx v e => ?_, fun hx _ v e => ?_⟩
  · rw [AState.storeOperand_of_short hx, AState.short_of_written hu]
  · rw [AState.storeOperand_of_long hx, AState.short_of_written hu, AState.short_of_written hv, ho]
    rfl
  · rw [AState.putOperand_s_of_short hx, Cells.read?_write]
  · rw [AState.putOperand_s_of_long hx, Cells.read?_write, Cells.read?_write, ho]
    rfl

/-! ### Constants -/

/-- The record of an overflow and the next order. -/
theorem AState.advance_noteOverflow (o : Bool) (a : AState) :
    (a.noteOverflow o).advance = { a with ovr := a.ovr || o, pc := a.pc + 1 } := rfl

/-- Group 4F answers in every state. -/
theorem AState.constantToAcc_eq (f : AFunction) (n : Addr13) (x : BitVec 3) (m : BitVec 2) (c : Config) (a : AState) :
    let k := constantOperand c x (a.effectiveN c n m)
    AState.constantToAcc f n x m c a = .next { a.setx c x (f.apply (accWidth c x) (a.xval c x) k) with
      ovr := a.ovr || f.overflows (accWidth c x) (a.xval c x) k, pc := a.pc + 1 } := by
  rw [AState.constantToAcc, AState.advance_noteOverflow, AState.setx_ovr, AState.setx_pc]

/-- Settles O45: each of the seven orders is `constantToAcc` with its function. -/
theorem argusConstants : Obligations.ArgusConstants := by
  intro s n x m ne w xv k q hq
  have hnext (f : AFunction) : s.onArgus (AState.constantToAcc f n x m) =
      .next (s.withA { s.a.setx s.cfg x (f.apply w xv k) with ovr := s.a.ovr || f.overflows w xv k, pc := s.a.pc + 1 }) :=
    State.onArgus_eq_next.2 ⟨_, AState.constantToAcc_eq f n x m s.cfg s.a, rfl⟩
  simp only [List.mem_cons, List.not_mem_nil, or_false] at hq
  rcases hq with rfl | rfl | rfl | rfl | rfl | rfl | rfl <;> exact hnext _

/-! ### Operands that are not there -/

/-- The result stops as an access to the store operand of X at `ne` does where it is not there: a refusal for a long operand at 0, else
stuck outside the store (spec/20_memory.md R80, R85, spec/60_exceptions.md R406). -/
structure StopsWithoutOperand {α : Type} (c : Config) (x : BitVec 3) (ne : Addr13) (r : Result α) : Prop where
  refused : isLong x = true → ne = 0 → r = .refused .longOperandAtAddress0
  stuck : ¬(isLong x = true ∧ ne = 0) → c.aStoreSize ≤ ne.toNat → r = .fault .argusStoreOutside

section
variable {c : Config} {a : AState} {n : Addr13} {x : BitVec 3} {m : BitVec 2}

/-- What follows a stop does not happen. -/
theorem StopsWithoutOperand.andThen {α β : Type} {ne : Addr13} {r : Result α} (h : StopsWithoutOperand c x ne r)
    (f : α → Result β) : StopsWithoutOperand c x ne (Result.andThen r f) :=
  ⟨fun hx h0 => by rw [h.refused hx h0]; rfl, fun h0 he => by rw [h.stuck h0 he]; rfl⟩

theorem AState.nval_stops (ne : Addr13) : StopsWithoutOperand c x ne (a.nval c x ne) :=
  ⟨fun hx h0 => if_pos ⟨hx, h0⟩, fun h0 he => (if_neg h0).trans (if_pos he)⟩

theorem AState.setn_stops (ne : Addr13) (v : Nat) : StopsWithoutOperand c x ne (a.setn c x ne v) :=
  ⟨fun hx h0 => if_pos ⟨hx, h0⟩, fun h0 he => (if_neg h0).trans (if_pos he)⟩

theorem AState.storeToAcc_stops (f : AFunction) :
    StopsWithoutOperand c x (a.effectiveN c n m) (AState.storeToAcc f n x m c a) := (nval_stops _).andThen _

/-- 10 and 12 do not read the operand, and stop at the write. -/
theorem AState.accToStore_stops (f : AFunction) :
    StopsWithoutOperand c x (a.effectiveN c n m) (AState.accToStore f n x m c a) := by
  unfold AState.accToStore AState.firstOperand
  split
  · exact (nval_stops _).andThen _
  · exact (setn_stops _ _).andThen _

theorem AState.toProduct_stops (value : AState → Nat → Nat → Nat) :
    StopsWithoutOperand c x (a.effectiveN c n m) (AState.toProduct value n x m c a) := (nval_stops _).andThen _

theorem AState.multiplyRounded_stops (h : c.aMulRound = true) :
    StopsWithoutOperand c x (a.effectiveN c n m) (AState.multiplyRounded n x m c a) := by
  rw [AState.multiplyRounded, if_pos h]
  exact toProduct_stops _

theorem AState.divide_stops (h : c.aDiv = true) :
    StopsWithoutOperand c x (a.effectiveN c n m) (AState.divide n x m c a) := by
  rw [AState.divide, if_pos h]
  exact toProduct_stops _

theorem AState.divideRounded_stops (h : c.aDiv = true) :
    StopsWithoutOperand c x (a.effectiveN c n m) (AState.divideRounded n x m c a) := by
  rw [AState.divideRounded, if_pos h]
  exact toProduct_stops _

theorem AState.divideRoundedAlone_stops (h : c.aDiv = true) :
    StopsWithoutOperand c x (a.effectiveN c n m) (AState.divideRoundedAlone n x m c a) := by
  rw [AState.divideRoundedAlone, if_pos h]
  exact (divideRounded_stops h).andThen _

end

/-- Settles O46: each order stops at its first access to the store operand. -/
theorem argusOperandsThatAreNotThere : Obligations.ArgusOperandsThatAreNotThere := by
  intro s n x m o ho hsupplied
  have hstops : StopsWithoutOperand s.cfg x (s.a.effectiveN s.cfg n m) (exec (o.1 n x m) s) := by
    simp only [List.mem_cons, List.not_mem_nil, or_false] at ho
    rcases ho with rfl | rfl | rfl | rfl | rfl | rfl | rfl | rfl | rfl | rfl | rfl | rfl | rfl | rfl | rfl | rfl | rfl | rfl | rfl
    iterate 7 · exact (AState.storeToAcc_stops _).andThen _
    iterate 7 · exact (AState.accToStore_stops _).andThen _
    · exact (AState.toProduct_stops _).andThen _
    · exact (AState.multiplyRounded_stops hsupplied).andThen _
    · exact (AState.divide_stops hsupplied).andThen _
    · exact (AState.divideRounded_stops hsupplied).andThen _
    · exact (AState.divideRoundedAlone_stops hsupplied).andThen _
  exact ⟨hstops.refused, hstops.stuck⟩

/-! ### The words of A.S that an order can change -/

/-- The result, where it is a next state, has the store of `a`. -/
def KeepsStore (a : AState) (r : Result AState) : Prop := ∀ a', r = .next a' → a'.s = a.s

namespace KeepsStore

variable {a : AState}

theorem next {a' : AState} (h : a'.s = a.s) : KeepsStore a (.next a') := by
  rintro _ ⟨⟩
  exact h

theorem refused {e : Refusal} : KeepsStore a (.refused e) := nofun

theorem ite {p : Prop} [Decidable p] {r r' : Result AState} (h : KeepsStore a r) (h' : KeepsStore a r') :
    KeepsStore a (if p then r else r') := by
  split
  · exact h
  · exact h'

theorem andThen {α : Type} {r : Result α} {f : α → Result AState} (h : ∀ y, KeepsStore a (f y)) :
    KeepsStore a (Result.andThen r f) := by
  intro a' ha
  obtain ⟨y, -, hy⟩ := Result.andThen_eq_next.1 ha
  exact h y a' hy

end KeepsStore

section
variable {c : Config} {a a' : AState} {n : Addr13} {x : BitVec 3} {m : BitVec 2}

theorem AState.storeToAcc_keepsStore (f : AFunction) : KeepsStore a (AState.storeToAcc f n x m c a) :=
  .andThen fun _ => .next (by simp)

theorem AState.constantToAcc_keepsStore (f : AFunction) : KeepsStore a (AState.constantToAcc f n x m c a) := .next (by simp)

theorem AState.toProduct_keepsStore (value : AState → Nat → Nat → Nat) : KeepsStore a (AState.toProduct value n x m c a) :=
  .andThen fun _ => .next (by simp)

theorem AState.multiplyRounded_keepsStore : KeepsStore a (AState.multiplyRounded n x m c a) :=
  .ite (toProduct_keepsStore _) .refused

theorem AState.divide_keepsStore : KeepsStore a (AState.divide n x m c a) := .ite (toProduct_keepsStore _) .refused

theorem AState.divideRounded_keepsStore : KeepsStore a (AState.divideRounded n x m c a) :=
  .ite (toProduct_keepsStore _) .refused

theorem AState.divideRoundedAlone_keepsStore : KeepsStore a (AState.divideRoundedAlone n x m c a) := by
  intro a' h
  obtain ⟨-, a1, h1, rfl⟩ := divideRoundedAlone_eq_next.1 h
  exact (clearRemainder_s x a1).trans (divideRounded_keepsStore a1 h1)

theorem AState.shiftAccArith_keepsStore : KeepsStore a (AState.shiftAccArith n x m c a) := .next (by simp)

theorem AState.shiftAccLogical_keepsStore : KeepsStore a (AState.shiftAccLogical n x m c a) := .next (by simp)

theorem AState.shiftDoubleArith_keepsStore : KeepsStore a (AState.shiftDoubleArith n x m c a) :=
  .ite (.next (by simp)) (.ite (.next (by simp)) .refused)

theorem AState.shiftDoubleLogical_keepsStore : KeepsStore a (AState.shiftDoubleLogical n x m c a) :=
  .ite (.next (by simp)) (.ite (.next (by simp)) .refused)

theorem AState.normaliseP_keepsStore : KeepsStore a (AState.normaliseP x c a) :=
  .ite .refused (.ite .refused (.next (by simp)))

theorem AState.normalisePQ_keepsStore : KeepsStore a (AState.normalisePQ x c a) :=
  .ite .refused (.ite .refused (.next (by simp)))

theorem AState.jumpOnAcc_keepsStore (cond : Nat → Nat → Bool) : KeepsStore a (AState.jumpOnAcc cond n x m c a) :=
  .next (by simp)

theorem AState.jumpOnOverflow_keepsStore (wanted : Bool) : KeepsStore a (AState.jumpOnOverflow wanted n m c a) :=
  .next (by simp)

theorem AState.countingJump_keepsStore (k : Nat) : KeepsStore a (AState.countingJump k n x m c a) := .next (by simp)

theorem AState.jumpStoringLink_keepsStore : KeepsStore a (AState.jumpStoringLink n m c a) := .next rfl

theorem AState.jumpOnTypewriter_keepsStore (wanted : Bool) : KeepsStore a (AState.jumpOnTypewriter wanted n m c a) :=
  .next (by simp)

/-- Group 1F changes the word at the effective N, and for a long X the one before it. -/
theorem AState.read?_accToStore {f : AFunction} (h : AState.accToStore f n x m c a = .next a') {e : Nat}
    (he : e ≠ (a.effectiveN c n m).toNat) (hl : isLong x = true → e ≠ (a.effectiveN c n m).toNat - 1) :
    Cells.read? a'.s e = Cells.read? a.s e := by
  obtain ⟨o, -, -, -, rfl⟩ := accToStore_eq_next.1 h
  simp only [advance_s, record_s, noteOverflow_s]
  cases hx : isLong x
  · rw [putOperand_s_of_short hx, Cells.read?_write_other _ _ he]
  · rw [putOperand_s_of_long hx, Cells.read?_write_other _ _ he, Cells.read?_write_other _ _ (hl hx)]

/-- An input order changes the short address that its register has, if any. -/
theorem AState.read?_selectInput {fn : BitVec 6} {place : IoRegisters → IoPlace} {own : Nat → AState → AState}
    (hown : ∀ v, (own v a).s = a.s) (h : AState.selectInput fn place own n m c a = .next a') {e : Nat}
    (he : ∀ regs k, c.aIoReg = some regs → place regs = .shortAddress k → e ≠ k.toNat) :
    Cells.read? a'.s e = Cells.read? a.s e := by
  obtain ⟨regs, a1, hregs, hd, rfl⟩ := selectInput_eq_next.1 h
  simp only [advance_s, record_s]
  rcases deliverTo_eq_next.1 hd with ⟨i, -, rfl⟩ | ⟨k, hk, -, rfl⟩ | ⟨-, rfl⟩
  · rfl
  · exact Cells.read?_write_other _ _ (he regs k hregs hk)
  · rw [hown]

end

/-- A word that an operation of the Argus leaves alone is left alone in the state. -/
theorem read?_onArgus {f : Config → AState → Result AState} {s t : State} {e : Nat} (h : s.onArgus f = .next t)
    (hf : ∀ {a'}, f s.cfg s.a = .next a' → Cells.read? a'.s e = Cells.read? s.a.s e) :
    Cells.read? t.a.s e = Cells.read? s.a.s e := by
  obtain ⟨a', ha, rfl⟩ := State.onArgus_eq_next.1 h
  exact hf ha

/-- The Argus functions that can write A.S: 10 to 16, and 30 to 32 where A_IOREG gives their register a short address. -/
def mayWriteArgusStore : Instr → Bool
  | .a10 .. | .a11 .. | .a12 .. | .a13 .. | .a14 .. | .a15 .. | .a16 .. | .a30 .. | .a31 .. | .a32 .. => true
  | _ => false

theorem KeepsStore.onArgus {f : Config → AState → Result AState} {s t : State} (h : s.onArgus f = .next t)
    (hf : KeepsStore s.a (f s.cfg s.a)) : t.a.s = s.a.s := by
  obtain ⟨a', ha, rfl⟩ := State.onArgus_eq_next.1 h
  exact hf a' ha

/-- Every other order, of any machine, leaves A.S whole. -/
theorem exec_keepsStore {i : Instr} {s t : State} (hi : mayWriteArgusStore i = false) (h : exec i s = .next t) :
    t.a.s = s.a.s := by
  obtain ⟨-, -, -, -, hother⟩ := machinesHaveDisjointState i s t h
  cases i <;> simp only [exec] at h
  case a10 | a11 | a12 | a13 | a14 | a15 | a16 | a30 | a31 | a32 => cases hi
  case a07 | a17 | a22 | a23 | a27 | a33 | a34 | a35 | a36 | a37 | a47 | a56 | a57 | a75 | a76 => cases h
  case a00 | a01 | a02 | a03 | a04 | a05 | a06 => exact KeepsStore.onArgus h (AState.storeToAcc_keepsStore _)
  case a40 | a41 | a42 | a43 | a44 | a45 | a46 => exact KeepsStore.onArgus h (AState.constantToAcc_keepsStore _)
  case a20 => exact KeepsStore.onArgus h (AState.toProduct_keepsStore _)
  case a21 => exact KeepsStore.onArgus h AState.multiplyRounded_keepsStore
  case a24 => exact KeepsStore.onArgus h AState.divide_keepsStore
  case a25 => exact KeepsStore.onArgus h AState.divideRounded_keepsStore
  case a26 => exact KeepsStore.onArgus h AState.divideRoundedAlone_keepsStore
  case a50 => exact KeepsStore.onArgus h AState.shiftAccArith_keepsStore
  case a51 => exact KeepsStore.onArgus h AState.shiftAccLogical_keepsStore
  case a52 => exact KeepsStore.onArgus h AState.shiftDoubleArith_keepsStore
  case a53 => exact KeepsStore.onArgus h AState.shiftDoubleLogical_keepsStore
  case a54 => exact KeepsStore.onArgus h AState.normaliseP_keepsStore
  case a55 => exact KeepsStore.onArgus h AState.normalisePQ_keepsStore
  case a60 | a61 | a62 | a63 => exact KeepsStore.onArgus h (AState.jumpOnAcc_keepsStore _)
  case a64 | a65 => exact KeepsStore.onArgus h (AState.jumpOnOverflow_keepsStore _)
  case a66 | a67 => exact KeepsStore.onArgus h (AState.countingJump_keepsStore _)
  case a70 => exact KeepsStore.onArgus h AState.jumpStoringLink_keepsStore
  case a73 | a74 => exact KeepsStore.onArgus h (AState.jumpOnTypewriter_keepsStore _)
  case a71 | a72 | a77 => exact KeepsStore.onArgus h (.next (by simp))
  all_goals exact congrArg AState.s (hother nofun)

/-- Settles O59: 10 to 16 and 30 to 32 by their shapes, every other function by `exec_keepsStore`. -/
theorem argusStoreFrame : Obligations.ArgusStoreFrame := by
  intro s t n x m
  refine ⟨fun o ho h e he hl => ?_, fun o ho h e he => ?_, fun o ho h e => ?_⟩
  · simp only [List.mem_cons, List.not_mem_nil, or_false] at ho
    rcases ho with rfl | rfl | rfl | rfl | rfl | rfl | rfl <;>
      exact read?_onArgus h fun hn => AState.read?_accToStore hn he hl
  · simp only [List.mem_cons, List.not_mem_nil, or_false] at ho
    rcases ho with rfl | rfl | rfl
    · exact read?_onArgus h fun hn => AState.read?_selectInput (fun v => AState.setReg20_s v s.a) hn he
    · exact read?_onArgus h fun hn => AState.read?_selectInput (fun v => AState.setReg20_s v s.a) hn he
    · exact read?_onArgus h fun hn => AState.read?_selectInput (fun v => AState.setReg22_s v s.a) hn he
  · have hi : mayWriteArgusStore (o n x m) = false := by
      clear h
      revert o
      simp [mayWriteArgusStore]
    exact congrArg (Cells.read? · e) (exec_keepsStore hi h)

end Sys2Proof.Machine
end

section
/-! PROOFS. The fast program store read of V = 5 (spec/20_memory.md R71, spec/40_poseidon_group0.md R140, R142, R143, R159). -/

namespace Sys2Proof.Machine

section
variable {c : Config} {f : PFunction} {fa fb fc : Field5} {p : PState}

/-! ### The tests of R143 -/

theorem ne_three_of_two_or {k : Field5} (hk : k = 2#5 ∨ k ≠ 3#5 ∧ isPlain c k = true) : k ≠ 3#5 := by
  rcases hk with rfl | ⟨h3, -⟩
  · decide
  · exact h3

theorem plainOrSpecial_of_two_or {k : Field5} (hk : k = 2#5 ∨ k ≠ 3#5 ∧ isPlain c k = true) : plainOrSpecial c k = true := by
  rcases hk with rfl | ⟨-, hplain⟩
  · rfl
  · simp [plainOrSpecial, hplain]

/-- A V = 5 order passes them with a plain A and with B and C plain or 2. -/
theorem addressCheck_fast {collate : Bool} (ha : fa ≠ 2#5 ∧ fa ≠ 3#5 ∧ isPlain c fa = true)
    (hb : fb = 2#5 ∨ fb ≠ 3#5 ∧ isPlain c fb = true) (hc : fc = 2#5 ∨ fc ≠ 3#5 ∧ isPlain c fc = true) :
    addressCheck c .fast collate fa fb fc = none := by
  obtain ⟨ha2, ha3, hap⟩ := ha
  have hA : plainOrSpecial c fa = true := plainOrSpecial_of_two_or (.inr ⟨ha3, hap⟩)
  simp [addressCheck, ha2, ha3, hA, ne_three_of_two_or hb, ne_three_of_two_or hc, plainOrSpecial_of_two_or hb,
    plainOrSpecial_of_two_or hc]

/-! ### The read -/

theorem PState.readFps_of_width (h : c.pW ≠ 24) : p.readFps c = .refused .fpsWordIsNotPW := if_pos h

theorem PState.readFps_outside (h : c.pW = 24) (hn : c.pFpsSize ≤ p.n.toNat) : p.readFps c = .fault .poseidonFpsOutside := by
  simp [readFps, h, hn]

/-- One read of P.FPS serves both operands. -/
theorem PState.sources_fast (h2 : fb = 2#5 ∨ fc = 2#5) :
    p.sources c .fast fb fc = Result.andThen (p.readFps c) fun w =>
      .next ⟨if fb = 2#5 then w.val else p.readR fb, if fc = 2#5 then w.val else p.readR fc, w.events⟩ := if_pos h2

/-- In Inner mode and past the tests of R143 an order is its reads and steps 4 to 9 of R140. -/
theorem PState.obey_of_addressCheck {v : PVariant} {collate : Bool} {op : Option PFunction} (hm : p.mode = .inner)
    (hcheck : addressCheck c v collate fa fb fc = none) :
    PState.obey v collate op fa fb fc c p =
      Result.andThen (p.sources c v fb fc) fun o => .next (PState.finish v fb fc p (p.operate c v op fa o)) := by
  simp [obey, hm, hcheck]

/-! ### The function and its record -/

/-- Only the adder overflows. -/
theorem PFunction.overflows_of_not_usesAdder {w b d : Nat} (hf : f.usesAdder = false) : f.overflows w b d = false := by
  cases f
  case add | sub | addCollate | subCollate => cases hf
  case xor | xorNot | and | andNot => rfl

/-- Step 4 of R140 for a result that goes to P.R. -/
theorem PState.operate_to_register {v : PVariant} (hv : ¬(v = .device ∧ fa = 3#5)) (o : PSources) :
    p.operate c v (some f) fa o = { (p.record o.events).afterFunction c f fa o.b o.c with pc := p.pc } := by
  simp only [operate, deliver, if_neg hv, recordResult, afterFunction]
  cases hf : f.usesAdder
  · simp [PFunction.overflows_of_not_usesAdder hf, writeR, recordLogical, record]
  · simp [writeR, recordSum, record, isNegative]

/-- A V = 5 order with B or C equal to 2 goes on in sequence. -/
theorem PState.finish_fast (h2 : fb = 2#5 ∨ fc = 2#5) (q : PState) :
    PState.finish .fast fb fc p q = { q with pc := p.pc + 1, mode := p.mode } := by
  have hnext : p.successor .fast fb fc = p.pc + 1 := by
    have hnot : ¬(fb ≠ 2#5 ∧ fc ≠ 2#5) := by tauto
    simp [successor, PVariant.countsLambda, hnot]
  simp [finish, hnext, PVariant.countsN, PVariant.countsLambda]

/-- A fast read inside P.FPS: the function of the operands read, and the next order in sequence. -/
theorem PState.obey_fast_inside {collate : Bool} (hm : p.mode = .inner) (hcheck : addressCheck c .fast collate fa fb fc = none)
    (h2 : fb = 2#5 ∨ fc = 2#5) (hw : c.pW = 24) (hn : p.n.toNat < c.pFpsSize) :
    PState.obey .fast collate (some f) fa fb fc c p = .next ((p.record p.fpsWord.events).afterFunction c f fa
      (if fb = 2#5 then p.fpsWord.val else p.readR fb) (if fc = 2#5 then p.fpsWord.val else p.readR fc)) := by
  rw [obey_of_addressCheck hm hcheck, sources_fast h2, readFps_eq_next.2 ⟨hw, hn, rfl⟩]
  simp only [Result.andThen_next, finish_fast h2, operate_to_register (v := .fast) (by simp)]
  rfl

/-- A fast read that stops stops the order. -/
theorem PState.obey_fast_fault {collate : Bool} {op : Option PFunction} {e : Fault} (hm : p.mode = .inner)
    (hcheck : addressCheck c .fast collate fa fb fc = none) (h2 : fb = 2#5 ∨ fc = 2#5) (hr : p.readFps c = .fault e) :
    PState.obey .fast collate op fa fb fc c p = .fault e := by
  rw [obey_of_addressCheck hm hcheck, sources_fast h2, hr]
  rfl

theorem PState.obey_fast_refused {collate : Bool} {op : Option PFunction} {e : Refusal} (hm : p.mode = .inner)
    (hcheck : addressCheck c .fast collate fa fb fc = none) (h2 : fb = 2#5 ∨ fc = 2#5) (hr : p.readFps c = .refused e) :
    PState.obey .fast collate op fa fb fc c p = .refused e := by
  rw [obey_of_addressCheck hm hcheck, sources_fast h2, hr]
  rfl

end

/-- Settles O29: each of the eight orders is `poseidonOrder .fast` with its function; the read of P.FPS decides its outcome. -/
theorem poseidonFastRead : Obligations.PoseidonFastRead := by
  intro s a b c hm ha hb hc h2 o ho
  have hexec : exec (o.1 a b c) s = s.onPoseidon (PState.obey .fast o.2.collates (some o.2) a b c) := by
    simp only [List.mem_cons, List.not_mem_nil, or_false] at ho
    rcases ho with rfl | rfl | rfl | rfl | rfl | rfl | rfl | rfl <;> rfl
  have hcheck := addressCheck_fast (collate := o.2.collates) ha hb hc
  rw [hexec]
  refine ⟨fun hw hn => ?_, fun hw hn => ?_, fun hw => ?_⟩
  · exact State.onPoseidon_eq_next.2 ⟨_, PState.obey_fast_inside hm hcheck h2 hw hn, rfl⟩
  · exact State.onPoseidon_eq_fault.2 (PState.obey_fast_fault hm hcheck h2 (PState.readFps_outside hw hn))
  · exact State.onPoseidon_eq_refused.2 (PState.obey_fast_refused hm hcheck h2 (PState.readFps_of_width hw))

end Sys2Proof.Machine
end

section
/-! PROOFS. The round trip between words and orders (spec/30_encoding.md R100, R101, R103, R105, R118): a word is packed again from
the fields its decoder reads, and the fields of a packed word are the ones packed. -/

namespace Sys2Proof

/-! ### The first bits of a word, from its nine function bits -/

/-- F and I of a Hermes word lie above the other four function bits. -/
theorem topFive_toNat (w : Order) : (w.extractLsb' 19 5).toNat = (functionBits w).toNat / 16 := by
  simp only [functionBits, BitVec.extractLsb'_toNat, Nat.shiftRight_eq_div_pow]
  have := w.isLt
  omega

/-- The lower bit of I. -/
theorem getLsbD_19_iff (w : Order) : w.getLsbD 19 = true ↔ (functionBits w).toNat / 16 % 2 = 1 := by
  rw [← topFive_toNat, BitVec.extractLsb'_toNat, ← BitVec.testBit_toNat, Nat.testBit_eq_decide_div_mod_eq, decide_eq_true_iff,
    Nat.shiftRight_eq_div_pow]
  omega

/-! ### A word packed again -/

section
variable {w : Order} {k : Nat}

theorem packABC_of_functionBits (h : (functionBits w).toNat = k) :
    packABC (BitVec.ofNat 9 k) (fieldA w) (fieldB w) (fieldC w) = w := by
  rw [← h, BitVec.ofNat_toNat, BitVec.setWidth_eq, packABC_fields]

theorem packNXFM_of_fieldF (h : (fieldF w).toNat = k) : packNXFM (fieldN w) (fieldX w) (BitVec.ofNat 6 k) (fieldM w) = w := by
  rw [← h, BitVec.ofNat_toNat, BitVec.setWidth_eq, packNXFM_fields]

theorem packRest21_of_topDigit (h : (topDigit w).toNat = k) : packRest21 (BitVec.ofNat 3 k) (below21 w) = w := by
  rw [← h, BitVec.ofNat_toNat, BitVec.setWidth_eq, packRest21_fields]

theorem packRest19_of_functionBits (h : (functionBits w).toNat / 16 = k) : packRest19 (BitVec.ofNat 5 k) (below19 w) = w := by
  rw [← h, ← topFive_toNat, BitVec.ofNat_toNat, BitVec.setWidth_eq, packRest19_fields]

end

/-! ### The word of a decoded order -/

/-- Group 0 by its function bits, the other groups by their first digit. -/
theorem machine_and_encode_decodePoseidon (w : Order) : (decodePoseidon w).machine = .poseidon ∧ encode (decodePoseidon w) = w := by
  by_cases hgroup : 64 ≤ (functionBits w).toNat
  · have htop := topDigit_toNat w
    have hlt := (topDigit w).isLt
    rw [decodePoseidon_group w hgroup]
    split
    case h_7 =>
      simp only [imp_false] at *
      exact ⟨rfl, packRest21_of_topDigit (k := 7) (by omega)⟩
    all_goals exact ⟨rfl, packRest21_of_topDigit ‹_›⟩
  · unfold decodePoseidon
    split
    case h_65 => simp only [imp_false] at *; omega
    all_goals exact ⟨rfl, packABC_of_functionBits ‹_›⟩

/-- The given half-table by its function bits, the omitted tables by F, and by I where F = 0. -/
theorem machine_and_encode_decodeHermes (w : Order) : (decodeHermes w).machine = .hermes ∧ encode (decodeHermes w) = w := by
  by_cases homitted : 32 ≤ (functionBits w).toNat
  · have htop := topDigit_toNat w
    have hlt := (topDigit w).isLt
    rw [decodeHermes_omitted w homitted]
    split
    case h_1 h0 =>
      have hbit := getLsbD_19_iff w
      split
      case isTrue h => exact ⟨rfl, packRest19_of_functionBits (k := 3) (by have := hbit.1 h; omega)⟩
      case isFalse h => exact ⟨rfl, packRest19_of_functionBits (k := 2) (by have := mt hbit.2 h; omega)⟩
    case h_8 =>
      simp only [imp_false] at *
      exact ⟨rfl, packRest21_of_topDigit (k := 7) (by omega)⟩
    all_goals exact ⟨rfl, packRest21_of_topDigit ‹_›⟩
  · unfold decodeHermes
    split
    case h_33 => simp only [imp_false] at *; omega
    all_goals exact ⟨rfl, packABC_of_functionBits ‹_›⟩

/-- Every function code by F; 77 is the one left over. -/
theorem machine_and_encode_decodeArgus (w : Order) : (decodeArgus w).machine = .argus ∧ encode (decodeArgus w) = w := by
  have hlt := (fieldF w).isLt
  unfold decodeArgus
  split
  case h_64 =>
    simp only [imp_false] at *
    exact ⟨rfl, packNXFM_of_fieldF (k := 63) (by omega)⟩
  all_goals exact ⟨rfl, packNXFM_of_fieldF ‹_›⟩

/-- Settles O2: the word decoded is packed again from its fields, machine by machine. -/
theorem encodeOfDecodeIsTheWord : Obligations.EncodeOfDecodeIsTheWord := by
  intro m w
  cases m with
  | poseidon => exact machine_and_encode_decodePoseidon w
  | hermes => exact machine_and_encode_decodeHermes w
  | argus => exact machine_and_encode_decodeArgus w

/-! ### The order of an encoded word -/

section
variable {f : BitVec 9} {a b c : Field5} {n : Addr13} {x : BitVec 3} {m : BitVec 2}

/-- A decoder that answers the order `o` of the fields for the function bits `f` reads a word packed with `f` back. -/
theorem decoder_packABC {decoder : Order → Instr} {o : Field5 → Field5 → Field5 → Instr}
    (harm : ∀ w, functionBits w = f → decoder w = o (fieldA w) (fieldB w) (fieldC w)) :
    decoder (packABC f a b c) = o a b c := by
  rw [harm _ (functionBits_packABC f a b c), fieldA_packABC, fieldB_packABC, fieldC_packABC]

theorem decodeArgus_packNXFM {f : BitVec 6} {o : Addr13 → BitVec 3 → BitVec 2 → Instr}
    (harm : ∀ w, fieldF w = f → decodeArgus w = o (fieldN w) (fieldX w) (fieldM w)) :
    decodeArgus (packNXFM n x f m) = o n x m := by
  rw [harm _ (fieldF_packNXFM n x f m), fieldN_packNXFM, fieldX_packNXFM, fieldM_packNXFM]

end

/-- A first digit of 1 or more: a Poseidon group other than 0, a Hermes table other than those of F = 0. -/
theorem functionBits_packRest21_ge_64 {u : BitVec 3} (hu : 1 ≤ u.toNat) (rest : BitVec 21) :
    64 ≤ (functionBits (packRest21 u rest)).toNat := by
  have := functionBits_packRest21_ge u rest
  omega

theorem functionBits_packRest19_div (fi : BitVec 5) (rest : BitVec 19) :
    (functionBits (packRest19 fi rest)).toNat / 16 = fi.toNat := by
  have hlt := (functionBits (packRest19 fi rest)).isLt
  have htop := congrArg BitVec.toNat (functionBits_packRest19 fi rest)
  rw [BitVec.extractLsb'_toNat, Nat.shiftRight_eq_div_pow] at htop
  omega

/-- F = 0 with I = 2 or 3: the lower bit of I says which of the two omitted tables. -/
theorem decodeHermes_packRest19 {fi : BitVec 5} (hfi : fi.toNat / 2 = 1) (rest : BitVec 19) :
    decodeHermes (packRest19 fi rest) = if fi.toNat % 2 = 1 then .h0_3x rest else .h0_2x rest := by
  have hdiv := functionBits_packRest19_div fi rest
  have htop : (topDigit (packRest19 fi rest)).toNat = 0 := by rw [topDigit_toNat]; omega
  rw [decodeHermes_omitted _ (by omega), htop]
  simp only [getLsbD_19_iff, hdiv, below19_packRest19]

/-- Every order has a word that its own machine's decoder reads back. -/
theorem decode_encode (i : Instr) : decode i.machine (encode i) = i := by
  cases i
  case p000 | p001 | p002 | p003 | p004 | p005 | p006 | p007 | p010 | p011 | p012 | p013 | p014 | p015 | p016 | p017
    | p020 | p021 | p022 | p023 | p024 | p025 | p026 | p027 | p030 | p031 | p032 | p033 | p034 | p035 | p036 | p037
    | p040 | p041 | p042 | p043 | p044 | p045 | p046 | p047 | p050 | p051 | p052 | p053 | p054 | p055 | p056 | p057
    | p060 | p061 | p062 | p063 | p064 | p065 | p066 | p067 | p070 | p071 | p072 | p073 | p074 | p075 | p076 | p077 =>
    exact decoder_packABC (decoder := decodePoseidon) fun w hf => by unfold decodePoseidon; rw [hf]; rfl
  case p1xx rest | p2xx rest | p3xx rest | p4xx rest | p5xx rest | p6xx rest | p7xx rest =>
    refine (decodePoseidon_group _ (functionBits_packRest21_ge_64 (by decide) rest)).trans ?_
    rw [topDigit_packRest21, below21_packRest21]
    rfl
  case h1xx rest | h2xx rest | h3xx rest | h4xx rest | h5xx rest | h6xx rest | h7xx rest =>
    refine (decodeHermes_omitted _ (le_trans (by decide) (functionBits_packRest21_ge_64 (by decide) rest))).trans ?_
    rw [topDigit_packRest21, below21_packRest21]
    rfl
  case h0_2x rest | h0_3x rest => exact (decodeHermes_packRest19 (by decide) rest).trans rfl
  case h0_00_0 | h0_01_0 | h0_00_1 | h0_01_1 | h0_00_2 | h0_01_2 | h0_00_3 | h0_01_3
    | h0_00_4 | h0_01_4 | h0_00_5 | h0_01_5 | h0_00_6 | h0_01_6 | h0_00_7 | h0_01_7
    | h0_10_0 | h0_11_0 | h0_10_1 | h0_11_1 | h0_10_2 | h0_11_2 | h0_10_3 | h0_11_3
    | h0_10_4 | h0_11_4 | h0_10_5 | h0_11_5 | h0_10_6 | h0_11_6 | h0_10_7 | h0_11_7 =>
    exact decoder_packABC (decoder := decodeHermes) fun w hf => by unfold decodeHermes; rw [hf]; rfl
  case a00 | a01 | a02 | a03 | a04 | a05 | a06 | a07 | a10 | a11 | a12 | a13 | a14 | a15 | a16 | a17
    | a20 | a21 | a22 | a23 | a24 | a25 | a26 | a27 | a30 | a31 | a32 | a33 | a34 | a35 | a36 | a37
    | a40 | a41 | a42 | a43 | a44 | a45 | a46 | a47 | a50 | a51 | a52 | a53 | a54 | a55 | a56 | a57
    | a60 | a61 | a62 | a63 | a64 | a65 | a66 | a67 | a70 | a71 | a72 | a73 | a74 | a75 | a76 | a77 =>
    exact decodeArgus_packNXFM fun w hf => by unfold decodeArgus; rw [hf]; rfl

/-- Settles O1: each format's packing keeps its fields, and each decoder's arm answers the order of its function bits. -/
theorem decodeOfEncodeIsTheOrder : Obligations.DecodeOfEncodeIsTheOrder := decode_encode

/-- Settles O3: the decoders run on the words. -/
theorem writtenWordsDecode : Obligations.WrittenWordsDecode := by
  unfold Obligations.WrittenWordsDecode
  decide

end Sys2Proof
end

section
/-! PROOFS. Orders that are refused in every state, and why: operands that the spec rules out (spec/40_poseidon_group0.md R143,
spec/47_argus_shift.md R344 to R347), and orders that it gives no meaning (spec/30_encoding.md R110 to R114). -/

namespace Sys2Proof.Machine

/-! ### The tests of R143 -/

section
variable {c : Config} {v : PVariant} {op : Option PFunction} {collate : Bool} {fa fb fc : Field5}

/-- The tests of the fields alone are the first five of the tests an order makes. -/
theorem poseidonForm_of_addressCheck (h : addressCheck c v collate fa fb fc = none) :
    poseidonForm (v = .fast) (v = .device) collate fa fb fc = none := by
  simp only [addressCheck] at h
  split_ifs at h with hcollate h3 hno3 h2 hbc
  simp only [ne_eq, decide_not] at h3 hbc
  simp only [poseidonForm]
  rw [if_neg hcollate, if_neg h3, if_neg hno3, if_neg h2, if_neg hbc]

/-- Outer mode is refused before the tests of R143, and what fails them is refused by them. -/
theorem PState.obey_isRefused_of_form {p : PState} (h : poseidonForm (v = .fast) (v = .device) collate fa fb fc ≠ none) :
    ∃ e, PState.obey v collate op fa fb fc c p = .refused e := by
  unfold PState.obey
  split
  · exact ⟨_, rfl⟩
  · split
    · exact ⟨_, rfl⟩
    · next hcheck => exact absurd (poseidonForm_of_addressCheck hcheck) h

theorem PState.obey_of_addressCheck_some {p : PState} {e : Refusal} (hm : p.mode = .inner)
    (hcheck : addressCheck c v collate fa fb fc = some e) : PState.obey v collate op fa fb fc c p = .refused e := by
  simp [PState.obey, hm, hcheck]

end

/-! ### Ill-formed orders -/

theorem onPoseidon_isRefused_of_form {v : PVariant} {op : Option PFunction} {collate : Bool} {fa fb fc : Field5} {s : State}
    (h : poseidonForm (v = .fast) (v = .device) collate fa fb fc ≠ none) :
    IsRefused (s.onPoseidon (PState.obey v collate op fa fb fc)) := by
  obtain ⟨e, he⟩ := PState.obey_isRefused_of_form h
  exact ⟨e, State.onPoseidon_eq_refused.2 he⟩

section
variable {n : Addr13} {x : BitVec 3} {m : BitVec 2} {c : Config} {a : AState}

theorem doubleShiftForm_ne_none (h : doubleShiftForm x ≠ none) : x ≠ 4#3 ∧ x ≠ 7#3 := by
  simpa [doubleShiftForm] using h

theorem normalisePForm_ne_none (h : normalisePForm x ≠ none) : x = 4#3 ∨ x = 5#3 ∨ x = 7#3 := by
  by_contra hx
  exact h (by simpa [normalisePForm, and_assoc] using hx)

theorem normalisePQForm_ne_none (h : normalisePQForm x ≠ none) : x = 4#3 ∨ x = 5#3 ∨ x = 6#3 ∨ x = 7#3 := by
  by_contra hx
  exact h (by simpa [normalisePQForm, and_assoc] using hx)

theorem AState.shiftDoubleArith_of_form (h : doubleShiftForm x ≠ none) :
    AState.shiftDoubleArith n x m c a = .refused (.argusShiftNeedsX4or7 0o52#6) := by
  obtain ⟨h4, h7⟩ := doubleShiftForm_ne_none h
  simp [shiftDoubleArith, h4, h7]

theorem AState.shiftDoubleLogical_of_form (h : doubleShiftForm x ≠ none) :
    AState.shiftDoubleLogical n x m c a = .refused (.argusShiftNeedsX4or7 0o53#6) := by
  obtain ⟨h4, h7⟩ := doubleShiftForm_ne_none h
  simp [shiftDoubleLogical, h4, h7]

theorem AState.normaliseP_of_form (h : normalisePForm x ≠ none) : AState.normaliseP x c a = .refused .argusCountOverlapsP :=
  if_pos (normalisePForm_ne_none h)

theorem AState.normalisePQ_of_form (h : normalisePQForm x ≠ none) :
    AState.normalisePQ x c a = .refused .argusCountOverlapsPQ := if_pos (normalisePQForm_ne_none h)

end

/-- Settles O17: an order whose form is checked makes the same check when it is obeyed; the others are well-formed. -/
theorem illFormedOrdersAreRefused : Obligations.IllFormedOrdersAreRefused := by
  intro i s hi
  cases i
  case p000 | p001 | p002 | p003 | p004 | p005 | p006 | p007 | p010 | p011 | p012 | p013 | p014 | p015 | p016 | p017
    | p020 | p021 | p022 | p023 | p024 | p025 | p026 | p027 | p030 | p032 | p034 | p036
    | p040 | p041 | p042 | p043 | p044 | p045 | p046 | p047 | p050 | p051 | p052 | p053 | p054 | p055 | p056 | p057
    | p060 | p061 | p062 | p063 | p064 | p065 | p066 | p067 | p070 | p071 | p072 | p073 | p074 | p075 | p076 | p077 =>
    exact onPoseidon_isRefused_of_form hi
  case a52 => exact ⟨_, State.onArgus_eq_refused.2 (AState.shiftDoubleArith_of_form hi)⟩
  case a53 => exact ⟨_, State.onArgus_eq_refused.2 (AState.shiftDoubleLogical_of_form hi)⟩
  case a54 => exact ⟨_, State.onArgus_eq_refused.2 (AState.normaliseP_of_form hi)⟩
  case a55 => exact ⟨_, State.onArgus_eq_refused.2 (AState.normalisePQ_of_form hi)⟩
  all_goals exact absurd rfl hi

/-! ### Orders without a meaning -/

theorem poseidonRefused_of_inner {s : State} (hm : s.p.mode = .inner) (e : Refusal) : poseidonRefused e s = .refused e := by
  simp [poseidonRefused, hm]

/-- In Inner mode an order stops at the first test of R143 that it fails. -/
theorem poseidonOrder_of_addressCheck_some {v : PVariant} {f : PFunction} {a b c : Field5} {s : State} {e : Refusal}
    (hm : s.p.mode = .inner) (hcheck : addressCheck s.cfg v f.collates a b c = some e) :
    poseidonOrder v f a b c s = .refused e :=
  State.onPoseidon_eq_refused.2 (PState.obey_of_addressCheck_some hm hcheck)

section
variable {c : Config} {fa fb fc : Field5}

/-- A V = 7 order with no field 3 passes the first two tests and fails the third. -/
theorem addressCheck_device_of_no3 {collate : Bool} (h3 : ¬(fa = 3#5 ∨ fb = 3#5 ∨ fc = 3#5)) :
    addressCheck c .device collate fa fb fc = some .poseidon07WNoAddress3 := by
  obtain ⟨ha, hb, hc⟩ : fa ≠ 3#5 ∧ fb ≠ 3#5 ∧ fc ≠ 3#5 := by simpa only [not_or] using h3
  simp [addressCheck, ha, hb, hc]

/-- W = 4 or 5 with a field 3 fails the first test, whatever V is. -/
theorem addressCheck_collate_of_3 {v : PVariant} (h3 : fa = 3#5 ∨ fb = 3#5 ∨ fc = 3#5) :
    addressCheck c v true fa fb fc = some .collateAtAddress3 := by
  simp [addressCheck, or_assoc, h3]

end

/-- Settles O18: the unlisted codes and the outlined groups are `poseidonRefused`, the V = 7 orders stop at a test of R143. -/
theorem poseidonOrdersWithoutMeaning : Obligations.PoseidonOrdersWithoutMeaning := by
  intro s hm
  simp only [List.forall_mem_cons, List.not_mem_nil, false_imp_iff, implies_true, and_true]
  refine ⟨fun a b c => ?unlisted, fun rest => ?groups, fun a b c h3 => ?no3, fun a b c h3 => ?collate⟩
  case unlisted => and_intros <;> exact poseidonRefused_of_inner hm _
  case groups => and_intros <;> exact poseidonRefused_of_inner hm _
  case no3 => and_intros <;> exact poseidonOrder_of_addressCheck_some hm (addressCheck_device_of_no3 h3)
  case collate => and_intros <;> exact poseidonOrder_of_addressCheck_some hm (addressCheck_collate_of_3 h3)

/-- Settles O19: each of these arms is its refusal, whatever the operands and the state. -/
theorem hermesOrdersWithoutMeaning : Obligations.HermesOrdersWithoutMeaning := by
  intro s
  simp only [List.forall_mem_cons, List.not_mem_nil, false_imp_iff, implies_true, and_true]
  refine ⟨fun a b c => rfl, fun a b c => ?blank, fun rest => ?tablesOfF0, fun rest => ?tables⟩
  case blank => and_intros <;> rfl
  case tablesOfF0 => and_intros <;> rfl
  case tables => and_intros <;> rfl

/-- Settles O20: each of these arms is its refusal with its code, whatever the operands and the state. -/
theorem argusOrdersWithoutMeaning : Obligations.ArgusOrdersWithoutMeaning := by
  intro s n x m
  simp only [List.forall_mem_cons, List.not_mem_nil, false_imp_iff, implies_true, and_true]
  refine ⟨?unassigned, ?installation⟩
  case unassigned => and_intros <;> rfl
  case installation => and_intros <;> rfl

end Sys2Proof.Machine
end

section
/-! PROOFS. The Poseidon's Group 0 (spec/40_poseidon_group0.md R140 to R167): its orders as a table of V and W, the tests of R143 as
equations, and the next state of an order that passes them, by its V. -/

namespace Sys2Proof.Machine

/-! ### The table of Group 0 -/

/-- The functions of W = 0 to 7, in that order (spec/40_poseidon_group0.md R141). -/
def PFunction.all : List PFunction := [.add, .sub, .xor, .xorNot, .addCollate, .subCollate, .and, .andNot]

/-- The one of eight orders that stands at the W of a function. -/
def PFunction.pick {α : Type} (f : PFunction) (w0 w1 w2 w3 w4 w5 w6 w7 : α) : α :=
  match f with
  | .add => w0
  | .sub => w1
  | .xor => w2
  | .xorNot => w3
  | .addCollate => w4
  | .subCollate => w5
  | .and => w6
  | .andNot => w7

/-- The order P0VW, with W named by the function it selects (spec/30_encoding.md R107). -/
def PVariant.order (v : PVariant) (f : PFunction) : Field5 → Field5 → Field5 → Instr :=
  match v with
  | .plain => f.pick .p000 .p001 .p002 .p003 .p004 .p005 .p006 .p007
  | .countN => f.pick .p010 .p011 .p012 .p013 .p014 .p015 .p016 .p017
  | .countBoth => f.pick .p020 .p021 .p022 .p023 .p024 .p025 .p026 .p027
  | .conditional => f.pick .p030 .p031 .p032 .p033 .p034 .p035 .p036 .p037
  | .returnOuter => f.pick .p040 .p041 .p042 .p043 .p044 .p045 .p046 .p047
  | .fast => f.pick .p050 .p051 .p052 .p053 .p054 .p055 .p056 .p057
  | .countLambda => f.pick .p060 .p061 .p062 .p063 .p064 .p065 .p066 .p067
  | .device => f.pick .p070 .p071 .p072 .p073 .p074 .p075 .p076 .p077

theorem PVariant.exec_order {v : PVariant} (hv : v ≠ .conditional) (f : PFunction) (a b c : Field5) (s : State) :
    exec (v.order f a b c) s = poseidonOrder v f a b c s := by
  cases v
  case conditional => exact absurd rfl hv
  all_goals cases f <;> rfl

/-- Each of the given functions with the order of this V that performs it. -/
def PVariant.functionOrders (v : PVariant) (fs : List PFunction) : List ((Field5 → Field5 → Field5 → Instr) × PFunction) :=
  fs.map fun f => (v.order f, f)

theorem PVariant.exec_of_mem_functionOrders {v : PVariant} (hv : v ≠ .conditional) {fs : List PFunction}
    {o : (Field5 → Field5 → Field5 → Instr) × PFunction} (ho : o ∈ v.functionOrders fs) (a b c : Field5) (s : State) :
    o.2 ∈ fs ∧ exec (o.1 a b c) s = poseidonOrder v o.2 a b c s := by
  obtain ⟨f, hf, rfl⟩ := List.mem_map.1 ho
  exact ⟨hf, v.exec_order hv f a b c s⟩

/-- V and W of the orders that the table lists, row by row: of V = 3 those of even W (spec/30_encoding.md R110). -/
def listedCodes : List (PVariant × PFunction) :=
  [.plain, .countN, .countBoth].flatMap (fun v => PFunction.all.map (v, ·)) ++
    [.add, .xor, .addCollate, .and].map (PVariant.conditional, ·) ++
    [.returnOuter, .fast, .countLambda, .device].flatMap (fun v => PFunction.all.map (v, ·))

/-- The listed orders whose V and W satisfy a condition. -/
def ordersWhere (q : PVariant → PFunction → Bool) : List (Field5 → Field5 → Field5 → Instr) :=
  (listedCodes.filter fun k => q k.1 k.2).map fun k => k.1.order k.2

/-- A listed order is obeyed as R140 says, with the tests of R143 for its V and W; V = 3 chooses its operation by C.R. -/
theorem exec_of_mem_ordersWhere {q : PVariant → PFunction → Bool} {o : Field5 → Field5 → Field5 → Instr}
    (ho : o ∈ ordersWhere q) (a b c : Field5) (s : State) :
    ∃ v f op, q v f = true ∧ exec (o a b c) s = s.onPoseidon (PState.obey v f.collates op a b c) := by
  obtain ⟨⟨v, f⟩, hk, rfl⟩ := List.mem_map.1 ho
  obtain ⟨hlisted, hq⟩ := List.mem_filter.1 hk
  by_cases hv : v = .conditional
  · subst hv
    have hf : f = .add ∨ f = .xor ∨ f = .addCollate ∨ f = .and := by simpa [listedCodes] using hlisted
    rcases hf with rfl | rfl | rfl | rfl <;> exact ⟨_, _, _, hq, rfl⟩
  · exact ⟨v, f, some f, hq, v.exec_order hv f a b c s⟩

/-! ### The tests of R143 -/

section
variable {c : Config} {v : PVariant} {collate : Bool} {fa fb fc : Field5}

/-- The first three tests are passed: a V = 7 order has a field 3 and is not of W = 4 or 5, any other order has no field 3. -/
abbrev ThreesAllowed (v : PVariant) (collate : Bool) (fa fb fc : Field5) : Prop :=
  ¬(fa = 3#5 ∨ fb = 3#5 ∨ fc = 3#5) ∧ v ≠ .device ∨ (fa = 3#5 ∨ fb = 3#5 ∨ fc = 3#5) ∧ v = .device ∧ collate = false

theorem addressCheck_three_outside_V7 (h3 : fa = 3#5 ∨ fb = 3#5 ∨ fc = 3#5) (hv : v ≠ .device) (hcollate : collate = false) :
    addressCheck c v collate fa fb fc = some .address3OutsideV7 := by
  simp [addressCheck, hcollate, hv, or_assoc, h3]

/-- Past the tests of field value 3, the tests of field value 2 and of P_PLAIN decide. -/
theorem addressCheck_of_threesAllowed (h : ThreesAllowed v collate fa fb fc) :
    addressCheck c v collate fa fb fc =
      if fa = 2#5 then some .address2AsDestination
      else if v ≠ .fast ∧ (fb = 2#5 ∨ fc = 2#5) then some .address2OutsideV5
      else if plainOrSpecial c fa = true ∧ plainOrSpecial c fb = true ∧ plainOrSpecial c fc = true then none
      else some .addressNotPlain := by
  rcases h with ⟨h3, hv⟩ | ⟨h3, rfl, rfl⟩
  · obtain ⟨ha, hb, hc⟩ : fa ≠ 3#5 ∧ fb ≠ 3#5 ∧ fc ≠ 3#5 := by simpa only [not_or] using h3
    simp [addressCheck, ha, hb, hc, hv, and_assoc]
  · have hhas3 : (decide (fa = 3#5) || decide (fb = 3#5) || decide (fc = 3#5)) = true := by simpa [or_assoc] using h3
    simp [addressCheck, hhas3, and_assoc]

theorem addressCheck_destination_two (h : ThreesAllowed v collate fa fb fc) (ha : fa = 2#5) :
    addressCheck c v collate fa fb fc = some .address2AsDestination := by
  rw [addressCheck_of_threesAllowed h, if_pos ha]

theorem addressCheck_source_two (h : ThreesAllowed v collate fa fb fc) (ha : fa ≠ 2#5) (hv : v ≠ .fast)
    (h2 : fb = 2#5 ∨ fc = 2#5) : addressCheck c v collate fa fb fc = some .address2OutsideV5 := by
  rw [addressCheck_of_threesAllowed h, if_neg ha, if_pos ⟨hv, h2⟩]

theorem addressCheck_not_plain (h : ThreesAllowed v collate fa fb fc) (ha : fa ≠ 2#5) (h2 : v = .fast ∨ ¬(fb = 2#5 ∨ fc = 2#5))
    (hplain : ¬(plainOrSpecial c fa = true ∧ plainOrSpecial c fb = true ∧ plainOrSpecial c fc = true)) :
    addressCheck c v collate fa fb fc = some .addressNotPlain := by
  rw [addressCheck_of_threesAllowed h, if_neg ha, if_neg (fun hn => h2.elim hn.1 (· hn.2)), if_neg hplain]

theorem addressCheck_passed (h : ThreesAllowed v collate fa fb fc) (ha : fa ≠ 2#5) (h2 : ¬(fb = 2#5 ∨ fc = 2#5))
    (hplain : plainOrSpecial c fa = true ∧ plainOrSpecial c fb = true ∧ plainOrSpecial c fc = true) :
    addressCheck c v collate fa fb fc = none := by
  rw [addressCheck_of_threesAllowed h, if_neg ha, if_neg (fun hn => h2 hn.2), if_pos hplain]

theorem PlainFields.sources_ne_two (hf : PlainFields c fa fb fc) : fb ≠ 2#5 ∧ fc ≠ 2#5 := by
  obtain ⟨-, ⟨hb, -⟩, hc, -⟩ := hf
  exact ⟨hb, hc⟩

theorem plainOrSpecial_of_isPlain {k : Field5} (hk : isPlain c k = true) : plainOrSpecial c k = true := by
  simp [plainOrSpecial, hk]

/-- Three ordinary cells pass in every order that is not of V = 7. -/
theorem addressCheck_of_plainFields (hf : PlainFields c fa fb fc) (hv : v ≠ .device) :
    addressCheck c v collate fa fb fc = none := by
  obtain ⟨⟨ha2, ha3, hap⟩, ⟨hb2, hb3, hbp⟩, hc2, hc3, hcp⟩ := hf
  exact addressCheck_passed (.inl ⟨by simp [ha3, hb3, hc3], hv⟩) ha2 (by simp [hb2, hc2])
    ⟨plainOrSpecial_of_isPlain hap, plainOrSpecial_of_isPlain hbp, plainOrSpecial_of_isPlain hcp⟩

theorem ne_two_of_three_or {k : Field5} (hk : k = 3#5 ∨ k ≠ 2#5 ∧ isPlain c k = true) : k ≠ 2#5 := by
  rcases hk with rfl | ⟨h2, -⟩
  · decide
  · exact h2

theorem plainOrSpecial_of_three_or {k : Field5} (hk : k = 3#5 ∨ k ≠ 2#5 ∧ isPlain c k = true) :
    plainOrSpecial c k = true := by
  rcases hk with rfl | ⟨-, hplain⟩
  · rfl
  · exact plainOrSpecial_of_isPlain hplain

/-- A V = 7 order of W other than 4 and 5 passes with a field 3 and with the other fields plain. -/
theorem addressCheck_device (h3 : fa = 3#5 ∨ fb = 3#5 ∨ fc = 3#5) (ha : fa = 3#5 ∨ fa ≠ 2#5 ∧ isPlain c fa = true)
    (hb : fb = 3#5 ∨ fb ≠ 2#5 ∧ isPlain c fb = true) (hc : fc = 3#5 ∨ fc ≠ 2#5 ∧ isPlain c fc = true) :
    addressCheck c .device false fa fb fc = none :=
  addressCheck_passed (.inr ⟨h3, rfl, rfl⟩) (ne_two_of_three_or ha) (by simp [ne_two_of_three_or hb, ne_two_of_three_or hc])
    ⟨plainOrSpecial_of_three_or ha, plainOrSpecial_of_three_or hb, plainOrSpecial_of_three_or hc⟩

end

/-- In Inner mode the listed orders of a condition are refused for the reason that the tests of R143 give all of them. -/
theorem refused_of_mem_ordersWhere {q : PVariant → PFunction → Bool} {a b c : Field5} {s : State} {e : Refusal}
    (hm : s.p.mode = .inner) (hcheck : ∀ v f, q v f = true → addressCheck s.cfg v f.collates a b c = some e) :
    ∀ o ∈ ordersWhere q, exec (o a b c) s = .refused e := by
  intro o ho
  obtain ⟨v, f, op, hq, hexec⟩ := exec_of_mem_ordersWhere ho a b c s
  rw [hexec]
  exact State.onPoseidon_eq_refused.2 (PState.obey_of_addressCheck_some hm (hcheck v f hq))

/-! ### The steps of R140 -/

section
variable {c : Config} {v : PVariant} {f : PFunction} {fa fb fc : Field5} {p q : PState}

theorem PState.record_nil : p.record [] = p := by simp [PState.record]

/-- Steps 5 to 9 of R140 in one equation. -/
theorem PState.finish_eq (v : PVariant) (fb fc : Field5) (before p : PState) :
    PState.finish v fb fc before p = { p with
      n := if v.countsN then p.countedN else p.n
      lambda := if v.countsLambda then p.lambda + 1 else p.lambda
      pc := before.successor v fb fc
      mode := if v = .returnOuter then .outer else before.mode } := by
  unfold PState.finish
  split <;> split <;> rfl

/-- The order after a count and test of lambda. -/
theorem PState.successor_of_countsLambda (hv : v.countsLambda = true) : p.successor v fb fc = p.lambdaSuccessor := by
  have hfast : v ≠ .fast := by rintro rfl; cases hv
  simp [successor, lambdaSuccessor, lambdaNegative, hv, hfast]

theorem PState.successor_of_not_countsLambda (hv : v.countsLambda = false) (hfast : v ≠ .fast) :
    p.successor v fb fc = p.pc + 1 := by
  simp [successor, hv, hfast]

theorem PState.successor_fast_jump (hb : fb ≠ 2#5) (hc : fc ≠ 2#5) : p.successor .fast fb fc = p.n := by
  simp [successor, PVariant.countsLambda, hb, hc]

/-- An order that reads neither P.FPS nor a device takes both operands from P.R. -/
theorem PState.sources_of_registers (hv : v ≠ .device) (hb : fb ≠ 2#5) (hc : fc ≠ 2#5) :
    p.sources c v fb fc = .next ⟨p.readR fb, p.readR fc, []⟩ := by
  cases v
  case device => exact absurd rfl hv
  case fast => simp [sources, hb, hc]
  all_goals rfl

/-- Step 4 of R140 for a result that goes to the punch: no location is written. -/
theorem PState.operate_to_punch (o : PSources) :
    p.operate c .device (some f) 3#5 o = { (p.record o.events).afterFunction c f 3#5 o.b o.c with
      r := p.r
      punch := p.punch ++ [punchedCharacter c (f.apply c.pW o.b o.c)]
      pc := p.pc } := by
  simp only [operate, deliver, recordResult, afterFunction]
  cases hf : f.usesAdder
  · simp [PFunction.overflows_of_not_usesAdder hf, punchOut, recordLogical, record]
  · simp [punchOut, recordSum, record, isNegative]

/-- The next state of an order with three plain fields: the function of W, and what V adds. -/
theorem poseidonOrder_of_plainFields {a b d : Field5} {s : State} (hm : s.p.mode = .inner) (hf : PlainFields s.cfg a b d)
    (hv : v ≠ .device) :
    poseidonOrder v f a b d s = .next (s.withP { s.p.afterFunction s.cfg f a (s.p.readR b) (s.p.readR d) with
      n := if v.countsN then s.p.countedN else s.p.n
      lambda := if v.countsLambda then s.p.lambda + 1 else s.p.lambda
      pc := s.p.successor v b d
      mode := if v = .returnOuter then .outer else s.p.mode }) := by
  obtain ⟨hb2, hd2⟩ := PlainFields.sources_ne_two hf
  refine poseidonOrder_eq_next.2 ⟨hm, addressCheck_of_plainFields hf hv, _, PState.sources_of_registers hv hb2 hd2, ?_⟩
  rw [PState.finish_eq, PState.operate_to_register (by simp [hv]), PState.record_nil]
  rfl

theorem exec_functionOrder_of_plainFields {a b d : Field5} {s : State} {o : (Field5 → Field5 → Field5 → Instr) × PFunction}
    (hm : s.p.mode = .inner) (hf : PlainFields s.cfg a b d) (hv : v ≠ .conditional ∧ v ≠ .device)
    (ho : o ∈ v.functionOrders PFunction.all) :
    exec (o.1 a b d) s = .next (s.withP { s.p.afterFunction s.cfg o.2 a (s.p.readR b) (s.p.readR d) with
      n := if v.countsN then s.p.countedN else s.p.n
      lambda := if v.countsLambda then s.p.lambda + 1 else s.p.lambda
      pc := s.p.successor v b d
      mode := if v = .returnOuter then .outer else s.p.mode }) := by
  obtain ⟨hconditional, hdevice⟩ := hv
  obtain ⟨-, hexec⟩ := PVariant.exec_of_mem_functionOrders hconditional ho a b d s
  exact hexec.trans (poseidonOrder_of_plainFields hm hf hdevice)

/-- The effect of the operation that V = 3 chooses; a null order (`none`) changes pc alone. -/
def PState.afterChoice (c : Config) (op : Option PFunction) (a : Field5) (bv cv : Nat) (p : PState) : PState :=
  match op with
  | none => { p with pc := p.pc + 1 }
  | some f => p.afterFunction c f a bv cv

theorem PState.finish_conditional (op : Option PFunction) :
    PState.finish .conditional fb fc p (p.operate c .conditional op fa ⟨p.readR fb, p.readR fc, []⟩) =
      p.afterChoice c op fa (p.readR fb) (p.readR fc) := by
  rw [finish_eq, successor_of_not_countsLambda rfl (by simp)]
  cases op with
  | none => rfl
  | some f =>
    rw [operate_to_register (by simp), record_nil]
    rfl

/-- V = 3 with three plain fields: C.R. chooses the operation, before it is written. -/
theorem poseidonConditional_of_plainFields {collate : Bool} {nonNegative negative : Option PFunction} {a b d : Field5} {s : State}
    (hm : s.p.mode = .inner) (hf : PlainFields s.cfg a b d) :
    poseidonConditional collate nonNegative negative a b d s = .next (s.withP
      (if s.p.crNeg then s.p.afterChoice s.cfg negative a (s.p.readR b) (s.p.readR d)
        else s.p.afterChoice s.cfg nonNegative a (s.p.readR b) (s.p.readR d))) := by
  obtain ⟨hb2, hd2⟩ := PlainFields.sources_ne_two hf
  have hcheck : addressCheck s.cfg .conditional collate a b d = none := addressCheck_of_plainFields hf (by simp)
  rw [poseidonConditional, State.onPoseidon, PState.obey_of_addressCheck hm hcheck,
    PState.sources_of_registers (by simp) hb2 hd2, Result.andThen_next, Result.andThen_next, PState.finish_conditional]
  cases s.p.crNeg <;> rfl

/-- V = 7 past the tests of R143: the operands of `sources`, the result to the punch or to P.R, and the next order. -/
theorem poseidonOrder_device {a b d : Field5} {s : State} {o : PSources} (hm : s.p.mode = .inner)
    (hcheck : addressCheck s.cfg .device f.collates a b d = none) (ho : s.p.sources s.cfg .device b d = .next o) :
    poseidonOrder .device f a b d s = .next (s.withP
      (if a = 3#5 then
        { (s.p.record o.events).afterFunction s.cfg f a o.b o.c with
          r := s.p.r, punch := s.p.punch ++ [punchedCharacter s.cfg (f.apply s.cfg.pW o.b o.c)] }
      else (s.p.record o.events).afterFunction s.cfg f a o.b o.c)) := by
  refine poseidonOrder_eq_next.2 ⟨hm, hcheck, o, ho, ?_⟩
  rw [PState.finish_eq, PState.successor_of_not_countsLambda rfl (by simp)]
  split
  · next ha =>
    subst ha
    rw [PState.operate_to_punch]
    rfl
  · next ha =>
    rw [PState.operate_to_register (by simp [ha])]
    rfl

end

/-! ### The digits of a tape character -/

section
variable {c : Config}

theorem tapeWord_of_lsb (h : c.pDigit0Lsb = true) (ch : BitVec 5) : tapeWord c ch = ch.toNat := if_pos h

theorem tapeWord_of_not_lsb (h : c.pDigit0Lsb = false) (ch : BitVec 5) : tapeWord c ch = ch.toNat * 2 ^ (c.pW - 5) := by
  simp [tapeWord, h]

theorem punchedCharacter_of_lsb (h : c.pDigit0Lsb = true) (r : Nat) : punchedCharacter c r = BitVec.ofNat 5 r := by
  simp [punchedCharacter, h]

theorem punchedCharacter_of_not_lsb (h : c.pDigit0Lsb = false) (r : Nat) :
    punchedCharacter c r = BitVec.ofNat 5 (r / 2 ^ (c.pW - 5)) := by
  simp [punchedCharacter, h]

/-- A word of at least five bits holds a character on either convention. -/
theorem tapeWord_lt (hw : 5 ≤ c.pW) (ch : BitVec 5) : tapeWord c ch < 2 ^ c.pW := by
  have hch : ch.toNat < 2 ^ 5 := ch.isLt
  cases h : c.pDigit0Lsb
  · calc tapeWord c ch = ch.toNat * 2 ^ (c.pW - 5) := tapeWord_of_not_lsb h ch
      _ < 2 ^ 5 * 2 ^ (c.pW - 5) := Nat.mul_lt_mul_of_pos_right hch (Nat.two_pow_pos _)
      _ = 2 ^ c.pW := by rw [← pow_add, Nat.add_sub_cancel' hw]
  · rw [tapeWord_of_lsb h]
    exact hch.trans_le (Nat.pow_le_pow_right (by decide) hw)

/-- What the reader put on digits 0 to 4 the punch takes from them. -/
theorem punchedCharacter_tapeWord (ch : BitVec 5) : punchedCharacter c (tapeWord c ch) = ch := by
  cases h : c.pDigit0Lsb
  · rw [tapeWord_of_not_lsb h, punchedCharacter_of_not_lsb h, Nat.mul_div_cancel _ (Nat.two_pow_pos _), BitVec.ofNat_toNat,
      BitVec.setWidth_eq]
  · rw [tapeWord_of_lsb h, punchedCharacter_of_lsb h, BitVec.ofNat_toNat, BitVec.setWidth_eq]

end

/-! ### The obligations -/

/-- Settles O24: V = 0 adds nothing to the function of W, and V = 4 the mode. -/
theorem poseidonFunctionOrders : Obligations.PoseidonFunctionOrders := by
  intro s a b c hm hf
  refine ⟨fun o ho => ?plain, fun o ho => ?returnOuter⟩
  case plain =>
    rw [exec_functionOrder_of_plainFields (v := .plain) hm hf (by simp) ho,
      PState.successor_of_not_countsLambda rfl (by simp)]
    rfl
  case returnOuter =>
    rw [exec_functionOrder_of_plainFields (v := .returnOuter) hm hf (by simp) ho,
      PState.successor_of_not_countsLambda rfl (by simp)]
    rfl

/-- Settles O25: V = 1, 2 and 6 add their counts, and those that count lambda its test. -/
theorem poseidonCountingOrders : Obligations.PoseidonCountingOrders := by
  intro s a b c hm hf
  refine ⟨fun o ho => ?countN, fun o ho => ?countBoth, fun o ho => ?countLambda⟩
  case countN =>
    rw [exec_functionOrder_of_plainFields (v := .countN) hm hf (by simp) ho,
      PState.successor_of_not_countsLambda rfl (by simp)]
    rfl
  case countBoth =>
    rw [exec_functionOrder_of_plainFields (v := .countBoth) hm hf (by simp) ho,
      PState.successor_of_countsLambda rfl]
    rfl
  case countLambda =>
    rw [exec_functionOrder_of_plainFields (v := .countLambda) hm hf (by simp) ho,
      PState.successor_of_countsLambda rfl]
    rfl

theorem PState.countedN_toNat (p : PState) : p.countedN.toNat = (p.n.toNat + if p.q.getD 10 false then 2 else 1) % 8192 := by
  unfold countedN q10
  split <;> exact BitVec.toNat_add ..

theorem PState.lambdaSuccessor_toNat (p : PState) :
    p.lambdaSuccessor.toNat = if 4096 ≤ p.lambda.toNat then p.l.toNat else (p.pc.toNat + 1) % 8192 := by
  have hneg : p.lambda.msb = true ↔ 4096 ≤ p.lambda.toNat := by simp [BitVec.msb_eq_decide]
  simp only [lambdaSuccessor, hneg]
  split
  · rfl
  · exact BitVec.toNat_add ..

/-- Settles O26: an order that answers a next state has counted what its V counts, whatever its function. -/
theorem poseidonCounts : Obligations.PoseidonCounts := by
  intro s t a b c
  refine ⟨fun o ho h => ?countsN, fun o ho h => ?countsLambda⟩
  case countsN =>
    obtain ⟨v, f, op, hv, hexec⟩ := exec_of_mem_ordersWhere (q := fun v _ => v.countsN) ho a b c s
    obtain ⟨p, hp, rfl⟩ := State.onPoseidon_eq_next.1 (hexec.symm.trans h)
    obtain ⟨-, -, src, -, rfl⟩ := PState.obey_eq_next.1 hp
    obtain ⟨hn, -, -, -, -, -, hq, -⟩ := PState.operate_frame s.cfg v op a src s.p
    simp [PState.finish_eq, hv, PState.countedN_toNat, hn, hq]
  case countsLambda =>
    obtain ⟨v, f, op, hv, hexec⟩ := exec_of_mem_ordersWhere (q := fun v _ => v.countsLambda) ho a b c s
    obtain ⟨p, hp, rfl⟩ := State.onPoseidon_eq_next.1 (hexec.symm.trans h)
    obtain ⟨-, -, src, -, rfl⟩ := PState.obey_eq_next.1 hp
    obtain ⟨-, -, hlambda, -⟩ := PState.operate_frame s.cfg v op a src s.p
    simp [hv, hlambda, PState.successor_of_countsLambda hv, PState.lambdaSuccessor_toNat]

/-- Settles O27: each order is `poseidonConditional` with its two operations. -/
theorem poseidonConditionalOrders : Obligations.PoseidonConditionalOrders := by
  intro s a b c hm hf
  exact ⟨poseidonConditional_of_plainFields hm hf, poseidonConditional_of_plainFields hm hf,
    poseidonConditional_of_plainFields hm hf, poseidonConditional_of_plainFields hm hf⟩

/-- Settles O28: V = 5 without a fast read adds the jump to N. -/
theorem poseidonFastJump : Obligations.PoseidonFastJump := by
  intro s a b c hm hf o ho
  obtain ⟨hb2, hc2⟩ := PlainFields.sources_ne_two hf
  rw [exec_functionOrder_of_plainFields (v := .fast) hm hf (by simp) ho, PState.successor_fast_jump hb2 hc2]
  rfl

/-- Settles O30: the orders are those of V = 7 that do not collate, whose operands are what `PState.sources` says. -/
theorem poseidonDeviceOrders : Obligations.PoseidonDeviceOrders := by
  intro s a b c hm h3 ha hb hc bv cv p1 o ho
  obtain ⟨hfs, hexec⟩ := PVariant.exec_of_mem_functionOrders (v := .device)
    (fs := PFunction.all.filter fun f => !f.collates) (by simp) ho a b c s
  have hcollate : o.2.collates = false := by simpa using (List.mem_filter.1 hfs).2
  have hcheck : addressCheck s.cfg .device o.2.collates a b c = none := hcollate ▸ addressCheck_device h3 ha hb hc
  rw [hexec, poseidonOrder_device hm hcheck rfl]
  rfl

/-- Settles O31: both conventions are arithmetic with 2^(P_W - 5), the place of the lowest of the five digits. -/
theorem tapeCharacterDigits : Obligations.TapeCharacterDigits := by
  intro c ch hw
  refine ⟨fun h => tapeWord_of_lsb h ch, fun h => ?_, tapeWord_lt hw ch, punchedCharacter_tapeWord ch, fun r h => ?_,
    fun r h => ?_⟩
  · rw [tapeWord_of_not_lsb h]
    exact ⟨Nat.mul_mod_left .., Nat.mul_div_cancel _ (Nat.two_pow_pos _)⟩
  · rw [punchedCharacter_of_lsb h, BitVec.toNat_ofNat]
  · rw [punchedCharacter_of_not_lsb h, BitVec.toNat_ofNat]

/-- Settles O32: each clause is about the listed orders of one condition on V and W, and the tests before its own are passed. -/
theorem poseidonAddressTests : Obligations.PoseidonAddressTests := by
  intro s a b c hm has3 plain
  refine ⟨fun h3 => ?collate3, fun h3 => ?outside7, fun h3 => ?no3, fun h3 ha => ?dest, fun h3 ha => ?dest7,
    fun h3 ha h2 => ?source, fun h3 ha h2 => ?source7, fun h3 ha h2 hp => ?notPlain, fun h3 ha hp => ?notPlain5,
    fun h3 ha h2 hp => ?notPlain7⟩
  case collate3 =>
    exact refused_of_mem_ordersWhere (q := fun _ f => f.collates) hm fun v f hq => hq ▸ addressCheck_collate_of_3 h3
  case outside7 =>
    refine refused_of_mem_ordersWhere (q := fun v f => v ≠ .device && !f.collates) hm fun v f hq => ?_
    obtain ⟨hv, hcollate⟩ : v ≠ .device ∧ f.collates = false := by simpa using hq
    exact addressCheck_three_outside_V7 h3 hv hcollate
  case no3 =>
    refine refused_of_mem_ordersWhere (q := fun v _ => v = .device) hm fun v f hq => ?_
    obtain rfl : v = .device := by simpa using hq
    exact addressCheck_device_of_no3 h3
  case dest =>
    exact refused_of_mem_ordersWhere (q := fun v _ => v ≠ .device) hm fun v f hq =>
      addressCheck_destination_two (.inl ⟨h3, by simpa using hq⟩) ha
  case dest7 =>
    exact refused_of_mem_ordersWhere (q := fun v f => v = .device && !f.collates) hm fun v f hq =>
      addressCheck_destination_two (.inr ⟨h3, by simpa using hq⟩) ha
  case source =>
    refine refused_of_mem_ordersWhere (q := fun v _ => v ≠ .device && v ≠ .fast) hm fun v f hq => ?_
    obtain ⟨hv, hfast⟩ : v ≠ .device ∧ v ≠ .fast := by simpa using hq
    exact addressCheck_source_two (.inl ⟨h3, hv⟩) ha hfast h2
  case source7 =>
    refine refused_of_mem_ordersWhere (q := fun v f => v = .device && !f.collates) hm fun v f hq => ?_
    obtain ⟨rfl, hcollate⟩ : v = .device ∧ f.collates = false := by simpa using hq
    exact addressCheck_source_two (.inr ⟨h3, rfl, hcollate⟩) ha (by simp) h2
  case notPlain =>
    refine refused_of_mem_ordersWhere (q := fun v _ => v ≠ .device && v ≠ .fast) hm fun v f hq => ?_
    obtain ⟨hv, -⟩ : v ≠ .device ∧ v ≠ .fast := by simpa using hq
    exact addressCheck_not_plain (.inl ⟨h3, hv⟩) ha (.inr h2) hp
  case notPlain5 =>
    refine refused_of_mem_ordersWhere (q := fun v _ => v = .fast) hm fun v f hq => ?_
    obtain rfl : v = .fast := by simpa using hq
    exact addressCheck_not_plain (.inl ⟨h3, by simp⟩) ha (.inl rfl) hp
  case notPlain7 =>
    exact refused_of_mem_ordersWhere (q := fun v f => v = .device && !f.collates) hm fun v f hq =>
      addressCheck_not_plain (.inr ⟨h3, by simpa using hq⟩) ha (.inr h2) hp

end Sys2Proof.Machine
end

section
/-! PROOFS. The Hermes sum and its tests (spec/42_hermes_f0.md R201), and the orders that test a sum or store it at VA or VB
(R210 to R225, R230, R231, R235, R237, R242 to R245). -/

namespace Sys2Proof.Machine

/-! ### The sum and its tests -/

theorem fitsSigned_eq_true_iff {w : Nat} {t : Int} :
    fitsSigned w t = true ↔ -((2 ^ (w - 1) : Nat) : Int) ≤ t ∧ t ≤ ((2 ^ (w - 1) : Nat) : Int) - 1 := by
  rw [fitsSigned, decide_eq_true_iff, Int.le_sub_one_iff]

theorem sval_zero (w : Nat) : sval w 0 = 0 := (sval_eq_zero_iff (Nat.two_pow_pos w)).2 rfl

theorem HTest.positive_holds_iff {w r : Nat} : HTest.positive.holds w r = true ↔ 0 < sval w r := decide_eq_true_iff

theorem HTest.negative_holds_iff {w r : Nat} : HTest.negative.holds w r = true ↔ sval w r < 0 := decide_eq_true_iff

/-- Both tests are strict. -/
theorem HTest.holds_zero (test : HTest) (w : Nat) : test.holds w 0 = false := by
  cases test
  · simpa [sval_zero] using positive_holds_iff (w := w) (r := 0)
  · simpa [sval_zero] using negative_holds_iff (w := w) (r := 0)

/-- Settles O33: a sum in range is the word of its own signed value; out of range H_OVERFLOW decides. -/
theorem hermesSum : Obligations.HermesSum := by
  intro c u v hw t inRange
  have hfit : sumFits c u v = true ↔ inRange := fitsSigned_eq_true_iff
  refine ⟨fun hin => ?fits, fun hout ho => ?refused, fun _ ho => ?wrapped, fun _ => HTest.positive_holds_iff,
    fun _ => HTest.negative_holds_iff, HTest.holds_zero _ _, HTest.holds_zero _ _⟩
  case fits => exact ⟨_, sumH_eq_next.2 ⟨.inl (hfit.2 hin), rfl⟩, sval_trunc_of_fits hw (hfit.2 hin)⟩
  case refused => exact sumH_of_refused (Bool.eq_false_iff.2 (mt hfit.1 hout)) ho
  case wrapped => exact sumH_eq_next.2 ⟨.inr ho, rfl⟩

/-! ### Operands, targets and next states of the cells -/

section
variable {c : Config} {h : HState}

theorem HState.third_field (hs : 32 ≤ c.hStoreSize) (t : HThird) (f : Field5) : h.third c t f = .next (h.thirdWord c t f) := by
  cases t
  case store => exact readV_field hs 2 f
  case literal => rfl

theorem HState.relativeTarget_eq_trunc (f : Field5) :
    h.relativeTarget c f = trunc c.hAW ((h.pc : Int) + (if c.hRelBase = .self then 0 else 1) + f.toInt) := by
  unfold relativeTarget
  cases c.hRelBase
  case self => simp
  case next => simp

theorem HState.target_field (hs : 32 ≤ c.hStoreSize) (j : HJump) (f : Field5) :
    h.target c j f = .next (h.jumpAddress c j f) := by
  cases j
  case throughVA => exact target1_field hs f
  case relative => rw [target, jumpAddress, relativeTarget_eq_trunc]

/-- The sum of VB and the third operand, whichever that is. -/
theorem HState.sumOf_third_allowed (hs : 32 ≤ c.hStoreSize) {t : HThird} {fb fc : Field5}
    (ht : SumAllowed c (trueSum c (h.word c 1 fb.toNat) (h.thirdWord c t fc))) :
    HState.sumOf c (h.readV c 1 fb.toNat) (h.third c t fc) =
      .next ⟨trunc c.hW (trueSum c (h.word c 1 fb.toNat) (h.thirdWord c t fc)),
        (h.word c 1 fb.toNat).events ++ (h.thirdWord c t fc).events⟩ := by
  rw [readV_field hs, third_field hs, sumOf_allowed ht]

theorem HState.sumOf_third_refused (hs : 32 ≤ c.hStoreSize) {t : HThird} {fb fc : Field5}
    (ht : SumRefused c (trueSum c (h.word c 1 fb.toNat) (h.thirdWord c t fc))) :
    HState.sumOf c (h.readV c 1 fb.toNat) (h.third c t fc) = .refused .hermesSumOverflows := by
  rw [readV_field hs, third_field hs, sumOf_refused ht]

theorem HState.advance_record (es : List Event) :
    (h.record es).advance c = { h with pc := (h.pc + 1) % 2 ^ c.hAW, history := h.history ++ es } := by
  rw [← nextPc_eq_mod]
  rfl

/-- The step of N1 is a write of N1, which a store before it does not change. -/
theorem HState.stepN1_putV (k : N1Step) (e v : Nat) :
    (h.putV e v).stepN1 c k = (h.putV e v).setN1 (h.stepN1 c k).n1 := by
  cases k <;> rfl

end

/-! ### The shapes, by the outcome of their sum -/

section
variable {c : Config} {h : HState} {j : HJump} {t : HThird} {test : HTest} {k : N1Step} {f fa fb fc : Field5} {r : Read}

/-- The store is as before, whether the jump is made or not. -/
theorem HState.testJump_of_sum (hs : 32 ≤ c.hStoreSize)
    (hr : HState.sumOf c (h.readV c 1 fb.toNat) (h.third c t fc) = .next r) :
    HState.testJump j t test fa fb fc c h = .next
      (if test.holds c.hW r.val then
        { h with pc := (h.jumpAddress c j fa).val, history := h.history ++ (r.events ++ (h.jumpAddress c j fa).events) }
      else { h with pc := (h.pc + 1) % 2 ^ c.hAW, history := h.history ++ r.events }) := by
  refine testJump_eq_next.2 ⟨r, hr, ?_⟩
  split
  case isTrue hmade => exact .inl ⟨hmade, _, target_field hs j fa, rfl⟩
  case isFalse hnot => exact .inr ⟨Bool.eq_false_iff.2 hnot, (advance_record _).symm⟩

theorem HState.testJump_of_refused_sum {e : Refusal}
    (hr : HState.sumOf c (h.readV c 1 fb.toNat) (h.third c t fc) = .refused e) :
    HState.testJump j t test fa fb fc c h = .refused e := by
  rw [testJump, hr, Result.andThen_refused]

/-- The jump address is that of the state before the store. -/
theorem HState.storeJump_of_sum (hs : 32 ≤ c.hStoreSize)
    (hr : HState.sumOf c (h.readV c 1 fb.toNat) (h.third c t fc) = .next r) :
    HState.storeJump j t test fa fb fc c h = .next { h with
      v := Cells.write h.v fb.toNat r.val
      pc := if test.holds c.hW r.val then (h.jumpAddress c j fa).val else (h.pc + 1) % 2 ^ c.hAW
      history := h.history ++ ((h.jumpAddress c j fa).events ++ r.events) } := by
  rw [← nextPc_eq_mod]
  exact storeJump_eq_next.2 ⟨_, r, target_field hs j fa, hr, fb.isLt.trans_le hs, rfl⟩

/-- The jump address, which is read first, stops no order of a store of at least 32 words. -/
theorem HState.storeJump_of_refused_sum (hs : 32 ≤ c.hStoreSize) {e : Refusal}
    (hr : HState.sumOf c (h.readV c 1 fb.toNat) (h.third c t fc) = .refused e) :
    HState.storeJump j t test fa fb fc c h = .refused e := by
  rw [storeJump, target_field hs, Result.andThen_next, hr, Result.andThen_refused]

theorem HState.sumToVA_of_sum (hs : 32 ≤ c.hStoreSize)
    (hr : HState.sumOf c (h.readV c 1 fb.toNat) (h.third c t fc) = .next r) :
    HState.sumToVA t k fa fb fc c h = .next { h with
      v := Cells.write h.v fa.toNat r.val
      n1 := (h.stepN1 c k).n1
      pc := (h.pc + 1) % 2 ^ c.hAW
      history := h.history ++ r.events } := by
  refine sumToVA_eq_next.2 ⟨r, hr, fa.isLt.trans_le hs, ?_⟩
  rw [stepN1_putV, advance_record_setN1_putV]

theorem HState.sumToVA_of_refused_sum {e : Refusal}
    (hr : HState.sumOf c (h.readV c 1 fb.toNat) (h.third c t fc) = .refused e) :
    HState.sumToVA t k fa fb fc c h = .refused e := by
  rw [sumToVA, hr, Result.andThen_refused]

theorem HState.sumNaming_of_sum (hs : 32 ≤ c.hStoreSize)
    (hr : HState.sumOf c (h.readV c 1 fb.toNat) (h.readV c 2 fc.toNat) = .next r) :
    HState.sumNaming f fa fb fc c h = .next { h with
      v := Cells.write h.v fa.toNat r.val
      n1 := f.toNat % 2 ^ c.hAW
      pc := (h.pc + 1) % 2 ^ c.hAW
      history := h.history ++ r.events } :=
  sumNaming_eq_next.2 ⟨r, hr, fa.isLt.trans_le hs, (advance_record_setN1_putV ..).symm⟩

theorem HState.sumNaming_of_refused_sum {e : Refusal}
    (hr : HState.sumOf c (h.readV c 1 fb.toNat) (h.readV c 2 fc.toNat) = .refused e) :
    HState.sumNaming f fa fb fc c h = .refused e := by
  rw [sumNaming, hr, Result.andThen_refused]

end

/-- An operation of the Hermes that answers as the sum of VB and the third operand does, `next` of the sum or its refusal, lifted to
the whole state. -/
theorem onHermes_of_sum {s : State} (hs : 32 ≤ s.cfg.hStoreSize) {f : Config → HState → Result HState}
    {next : Read → HState} {t : HThird} {fb fc : Field5}
    (hnext : ∀ {r}, HState.sumOf s.cfg (s.h.readV s.cfg 1 fb.toNat) (s.h.third s.cfg t fc) = .next r →
      f s.cfg s.h = .next (next r))
    (hrefused : ∀ {e}, HState.sumOf s.cfg (s.h.readV s.cfg 1 fb.toNat) (s.h.third s.cfg t fc) = .refused e →
      f s.cfg s.h = .refused e) :
    let vb := s.h.word s.cfg 1 fb.toNat
    let third := s.h.thirdWord s.cfg t fc
    let sum := trueSum s.cfg vb third
    (SumAllowed s.cfg sum →
      s.onHermes f = .next (s.withH (next ⟨trunc s.cfg.hW sum, vb.events ++ third.events⟩))) ∧
    (SumRefused s.cfg sum → s.onHermes f = .refused .hermesSumOverflows) :=
  ⟨fun ht => State.onHermes_eq_next.2 ⟨_, hnext (HState.sumOf_third_allowed hs ht), rfl⟩,
    fun ht => State.onHermes_eq_refused.2 (hrefused (HState.sumOf_third_refused hs ht))⟩

/-! ### The obligations -/

/-- Settles O34: each order is `testJump` with its jump, its third operand and its test. -/
theorem hermesTestingJumps : Obligations.HermesTestingJumps := by
  intro s a b c hs o ho vb third t d
  have hexec : exec (o.1 a b c) s = s.onHermes (HState.testJump o.2.1 o.2.2.1 o.2.2.2 a b c) := by
    simp only [List.mem_cons, List.not_mem_nil, or_false] at ho
    rcases ho with rfl | rfl | rfl | rfl | rfl | rfl | rfl | rfl <;> rfl
  rw [hexec]
  exact onHermes_of_sum hs (HState.testJump_of_sum hs) HState.testJump_of_refused_sum

/-- Settles O35: each order is `storeJump` with its jump, its third operand and its test. -/
theorem hermesStoringJumps : Obligations.HermesStoringJumps := by
  intro s a b c hs o ho vb third t d
  have hexec : exec (o.1 a b c) s = s.onHermes (HState.storeJump o.2.1 o.2.2.1 o.2.2.2 a b c) := by
    simp only [List.mem_cons, List.not_mem_nil, or_false] at ho
    rcases ho with rfl | rfl | rfl | rfl | rfl | rfl | rfl | rfl <;> rfl
  rw [hexec]
  exact onHermes_of_sum hs (HState.storeJump_of_sum hs) (HState.storeJump_of_refused_sum hs)

/-- Settles O36: an order is `sumToVA` with its third operand and step of N1, or `sumNaming` with the field it leaves in N1. -/
theorem hermesSums : Obligations.HermesSums := by
  intro s a b c hs
  have stepping (t : HThird) (k : N1Step) :=
    onHermes_of_sum (f := HState.sumToVA t k a b c) hs (HState.sumToVA_of_sum hs) HState.sumToVA_of_refused_sum
  have naming (f : Field5) :=
    onHermes_of_sum (f := HState.sumNaming f a b c) (t := .store) hs (HState.sumNaming_of_sum hs) HState.sumNaming_of_refused_sum
  simp only [List.forall_mem_cons, List.not_mem_nil, false_imp_iff, implies_true, and_true]
  exact ⟨stepping .store .keep, stepping .literal .keep, stepping .store .up, stepping .literal .up,
    stepping .store .down, stepping .literal .down, naming b, naming c⟩

end Sys2Proof.Machine
end

section
/-! PROOFS. The Argus orders between an accumulator and a store operand that is there (spec/44_argus_arith.md R270 to R286): 00 to 06
write the accumulator, 10 to 16 the store operand. -/

namespace Sys2Proof.Machine

/-- The record of an overflow and of the draws, and the next order. -/
theorem AState.advance_record_noteOverflow (o : Bool) (es : List Event) (a : AState) :
    ((a.noteOverflow o).record es).advance =
      { a with ovr := a.ovr || o, pc := a.pc + 1, history := a.history ++ es } := rfl

/-! ### The shapes, where the operand is there -/

section
variable {c : Config} {a : AState} {n : Addr13} {x : BitVec 3} {m : BitVec 2} {f : AFunction}

/-- Group 0F. -/
theorem AState.storeToAcc_of_operand (h : OperandAllowed c x (a.effectiveN c n m)) :
    let o := a.storeOperand c x (a.effectiveN c n m)
    AState.storeToAcc f n x m c a = .next { a.setx c x (f.apply (accWidth c x) (a.xval c x) o.val) with
      ovr := a.ovr || f.overflows (accWidth c x) (a.xval c x) o.val, pc := a.pc + 1, history := a.history ++ o.events } := by
  refine AState.storeToAcc_eq_next.2 ⟨h.1, h.2, ?_⟩
  rw [AState.advance_record_noteOverflow, AState.setx_ovr, AState.setx_pc, AState.setx_history]

/-- Group 1F, from the operand that the function reads or does without. -/
theorem AState.accToStore_of_firstOperand {o : Read} (h : OperandAllowed c x (a.effectiveN c n m))
    (ho : a.firstOperand c f x (a.effectiveN c n m) = .next o) :
    AState.accToStore f n x m c a = .next
      { a.putOperand c x (a.effectiveN c n m) (f.apply (accWidth c x) o.val (a.xval c x)) with
        ovr := a.ovr || f.overflows (accWidth c x) o.val (a.xval c x), pc := a.pc + 1
        history := a.history ++ o.events } := by
  refine AState.accToStore_eq_next.2 ⟨o, ho, h.1, h.2, ?_⟩
  rw [AState.advance_record_noteOverflow, AState.putOperand_ovr, AState.putOperand_pc, AState.putOperand_history]

/-- 11 and 13 to 16 read the store operand. -/
theorem AState.firstOperand_of_reads {ne : Addr13} (h : OperandAllowed c x ne) (hf : f.readsFirst = true) :
    a.firstOperand c f x ne = .next (a.storeOperand c x ne) :=
  AState.firstOperand_eq_next.2 (.inl ⟨hf, h.1, h.2, rfl⟩)

/-- 10 and 12 do not read it, and draw nothing. -/
theorem AState.firstOperand_of_unread {ne : Addr13} (hf : f.readsFirst = false) : a.firstOperand c f x ne = .next ⟨0, []⟩ :=
  AState.firstOperand_eq_next.2 (.inr ⟨hf, rfl⟩)

/-- 10 stores x and leaves A.OVR and the record alone. -/
theorem AState.accToStore_copy (h : OperandAllowed c x (a.effectiveN c n m)) :
    AState.accToStore .copy n x m c a =
      .next { a.putOperand c x (a.effectiveN c n m) (a.xval c x) with pc := a.pc + 1 } := by
  rw [AState.accToStore_of_firstOperand h (AState.firstOperand_of_unread rfl)]
  simp [AFunction.apply, AFunction.overflows]

/-- 12 stores -x and leaves the record alone. -/
theorem AState.accToStore_negate (h : OperandAllowed c x (a.effectiveN c n m)) :
    AState.accToStore .negate n x m c a =
      .next { a.putOperand c x (a.effectiveN c n m) (negW (accWidth c x) (a.xval c x)) with
        ovr := a.ovr || ovfNeg (accWidth c x) (a.xval c x), pc := a.pc + 1 } := by
  rw [AState.accToStore_of_firstOperand h (AState.firstOperand_of_unread rfl)]
  simp [AFunction.apply, AFunction.overflows]

end

/-! ### The obligations -/

/-- Settles O43: each of the seven orders is `storeToAcc` with its function. -/
theorem argusLoadsAndSums : Obligations.ArgusLoadsAndSums := by
  intro s n x m h ne w xv o q hq
  have hexec : exec (q.1 n x m) s = s.onArgus (AState.storeToAcc q.2 n x m) := by
    simp only [List.mem_cons, List.not_mem_nil, or_false] at hq
    rcases hq with rfl | rfl | rfl | rfl | rfl | rfl | rfl <;> rfl
  rw [hexec]
  exact State.onArgus_eq_next.2 ⟨_, AState.storeToAcc_of_operand h, rfl⟩

/-- Settles O44: each of the seven orders is `accToStore` with its function, and five of the functions read the store operand. -/
theorem argusStores : Obligations.ArgusStores := by
  intro s n x m h ne w xv o
  refine ⟨State.onArgus_eq_next.2 ⟨_, AState.accToStore_copy h, rfl⟩,
    State.onArgus_eq_next.2 ⟨_, AState.accToStore_negate h, rfl⟩, fun q hq => ?_⟩
  have hexec : exec (q.1 n x m) s = s.onArgus (AState.accToStore q.2 n x m) ∧ q.2.readsFirst = true := by
    simp only [List.mem_cons, List.not_mem_nil, or_false] at hq
    rcases hq with rfl | rfl | rfl | rfl | rfl <;> exact ⟨rfl, rfl⟩
  obtain ⟨hexec, hreads⟩ := hexec
  rw [hexec]
  exact State.onArgus_eq_next.2 ⟨_, AState.accToStore_of_firstOperand h (AState.firstOperand_of_reads h hreads), rfl⟩

end Sys2Proof.Machine
end

section
/-! PROOFS. Argus multiplication and division (spec/45_argus_muldiv.md R310 to R316): where a value that is formed from the store operand
goes, that the exact product fits the double width, and the orders that are refused until the configuration supplies them. -/

namespace Sys2Proof.Machine

/-! ### The double-width product -/

/-- P is twice a short accumulator, (pq) twice a long one. -/
theorem productWidth_eq (c : Config) (x : BitVec 3) : productWidth c x = 2 * accWidth c x := by
  unfold productWidth accWidth
  split <;> omega

/-- The greatest magnitude is that of (-2^(w-1))^2, a quarter of 2^(2w). -/
theorem fitsSigned_mul_sval {w u v : Nat} (hw : 1 ≤ w) (hu : u < 2 ^ w) (hv : v < 2 ^ w) :
    fitsSigned (2 * w) (sval w u * sval w v) = true := by
  obtain ⟨hu1, hu2⟩ := sval_range hw hu
  obtain ⟨hv1, hv2⟩ := sval_range hw hv
  have hpos : (0 : Int) < ((2 ^ (w - 1) : Nat) : Int) := by exact_mod_cast Nat.two_pow_pos (w - 1)
  have hhalf : ((2 ^ (2 * w - 1) : Nat) : Int) = 2 * (((2 ^ (w - 1) : Nat) : Int) * ((2 ^ (w - 1) : Nat) : Int)) := by
    obtain ⟨k, rfl⟩ : ∃ k, w = k + 1 := ⟨w - 1, by omega⟩
    rw [show 2 * (k + 1) - 1 = k + k + 1 by omega, Nat.add_sub_cancel, pow_succ, pow_add]
    push_cast
    ring
  have habs : |sval w u * sval w v| ≤ ((2 ^ (w - 1) : Nat) : Int) * ((2 ^ (w - 1) : Nat) : Int) := by
    rw [abs_mul]
    exact mul_le_mul (abs_le.2 ⟨hu1, hu2.le⟩) (abs_le.2 ⟨hv1, hv2.le⟩) (abs_nonneg _) hpos.le
  obtain ⟨hlow, hhigh⟩ := abs_le.1 habs
  have hsq := mul_pos hpos hpos
  exact decide_eq_true ⟨by rw [hhalf]; linarith, by rw [hhalf]; linarith⟩

/-! ### The value to P or (pq), where the operand is there -/

/-- The record of the draws, and the next order. -/
theorem AState.advance_record_setProduct (c : Config) (x : BitVec 3) (v : Nat) (es : List Event) (a : AState) :
    ((a.setProduct c x v).record es).advance =
      { a.setProduct c x v with pc := a.pc + 1, history := a.history ++ es } := by
  rw [← AState.setProduct_pc c x v a, ← AState.setProduct_history c x v a]
  rfl

section
variable {c : Config} {a : AState} {n : Addr13} {x : BitVec 3} {m : BitVec 2}

theorem AState.toProduct_of_operand (h : OperandAllowed c x (a.effectiveN c n m)) (value : AState → Nat → Nat → Nat) :
    let o := a.storeOperand c x (a.effectiveN c n m)
    AState.toProduct value n x m c a = .next { a.setProduct c x (value a o.val (a.xval c x)) with
      pc := a.pc + 1, history := a.history ++ o.events } :=
  AState.toProduct_eq_next.2 ⟨h.1, h.2, (AState.advance_record_setProduct ..).symm⟩

/-- An order that is `toProduct` of a value. Its uses elaborate it by itself, `( … :)`, so that `value` comes from `hf`. -/
theorem State.onArgus_of_toProduct {s : State} {f : Config → AState → Result AState}
    {value : AState → Nat → Nat → Nat} (h : OperandAllowed s.cfg x (s.a.effectiveN s.cfg n m))
    (hf : f s.cfg s.a = AState.toProduct value n x m s.cfg s.a) :
    let o := s.a.storeOperand s.cfg x (s.a.effectiveN s.cfg n m)
    s.onArgus f = .next (s.withA { s.a.setProduct s.cfg x (value s.a o.val (s.a.xval s.cfg x)) with
      pc := s.a.pc + 1, history := s.a.history ++ o.events }) :=
  State.onArgus_eq_next.2 ⟨_, hf.trans (AState.toProduct_of_operand h value), rfl⟩

theorem AState.multiply_of_integer (h : c.aMul = .integer) :
    AState.multiply n x m c a = AState.toProduct (fun _ nv xv =>
      trunc (2 * accWidth c x) (sval (accWidth c x) nv * sval (accWidth c x) xv)) n x m c a := by
  simp only [AState.multiply, productOf, h, productWidth_eq]

theorem AState.multiply_of_supplied (h : c.aMul = .supplied) :
    AState.multiply n x m c a =
      AState.toProduct (fun _ nv xv => Config.product c.aW x nv xv % 2 ^ productWidth c x) n x m c a := by
  simp only [AState.multiply, productOf, h]

theorem AState.multiplyRounded_of_supplied (h : c.aMulRound = true) :
    AState.multiplyRounded n x m c a =
      AState.toProduct (fun _ nv xv => Config.roundedProduct c.aW x nv xv % 2 ^ productWidth c x) n x m c a := if_pos h

theorem AState.divide_of_supplied (h : c.aDiv = true) :
    AState.divide n x m c a =
      AState.toProduct (fun b nv xv => Config.quotient c.aW x nv xv (b.pqval c) % 2 ^ productWidth c x) n x m c a := if_pos h

theorem AState.divideRounded_of_supplied (h : c.aDiv = true) :
    AState.divideRounded n x m c a =
      AState.toProduct (fun b nv xv => Config.roundedQuotient c.aW x nv xv (b.pqval c) % 2 ^ productWidth c x) n x m c a :=
  if_pos h

theorem AState.clearRemainder_of_short (hx : isLong x = false) : a.clearRemainder x = { a with x := a.x.set 5 0 } := by
  simp [AState.clearRemainder, hx]

theorem AState.clearRemainder_of_long (hx : isLong x = true) : a.clearRemainder x = { a with q1 := 0, q2 := 0 } := if_pos hx

/-! ### Refused until supplied -/

theorem AState.multiplyRounded_of_not_supplied (h : c.aMulRound = false) :
    AState.multiplyRounded n x m c a = .refused .argusRoundingNotDefined := by
  simp [AState.multiplyRounded, h]

theorem AState.divide_of_not_supplied (h : c.aDiv = false) :
    AState.divide n x m c a = .refused (.argusDivisionNotDefined 0o24#6) := by
  simp [AState.divide, h]

theorem AState.divideRounded_of_not_supplied (h : c.aDiv = false) :
    AState.divideRounded n x m c a = .refused (.argusDivisionNotDefined 0o25#6) := by
  simp [AState.divideRounded, h]

/-- 26 is refused under its own code, before it does what 25 does. -/
theorem AState.divideRoundedAlone_of_not_supplied (h : c.aDiv = false) :
    AState.divideRoundedAlone n x m c a = .refused (.argusDivisionNotDefined 0o26#6) := by
  simp [AState.divideRoundedAlone, h]

theorem AState.selectInput_of_none (h : c.aIoReg = none) (fn : BitVec 6) (place : IoRegisters → IoPlace)
    (own : Nat → AState → AState) : AState.selectInput fn place own n m c a = .refused .argusInputNotPlaced := by
  simp [AState.selectInput, h]

end

/-! ### The obligations -/

/-- Settles O47: 20 is `toProduct` of the exact product, whose double width is that of P or (pq). -/
theorem argusMultiplication : Obligations.ArgusMultiplication :=
  ⟨fun _ _ _ _ hmul h => (State.onArgus_of_toProduct h (AState.multiply_of_integer hmul) :),
    fun _ _ _ hw hu hv => sval_trunc_of_fits (by omega) (fitsSigned_mul_sval hw hu hv)⟩

/-- Settles O48: each order is `toProduct` of its supplied function, and 26 clears P2 or Q in the next state of 25. -/
theorem suppliedProductsAndQuotients : Obligations.SuppliedProductsAndQuotients := by
  intro s n x m h o xv pq put
  refine ⟨fun hmul => ?a20, fun hround => ?a21, fun hdiv => ?a24, fun hdiv => ?a25, fun hdiv => ?a26⟩
  case a20 => exact (State.onArgus_of_toProduct h (AState.multiply_of_supplied hmul) :)
  case a21 => exact (State.onArgus_of_toProduct h (AState.multiplyRounded_of_supplied hround) :)
  case a24 => exact (State.onArgus_of_toProduct h (AState.divide_of_supplied hdiv) :)
  case a25 => exact (State.onArgus_of_toProduct h (AState.divideRounded_of_supplied hdiv) :)
  case a26 =>
    have h25 := (AState.divideRounded_of_supplied hdiv).trans (AState.toProduct_of_operand h _)
    exact ⟨_, State.onArgus_eq_next.2 ⟨_, AState.divideRoundedAlone_eq_next.2 ⟨hdiv, _, h25, rfl⟩, rfl⟩,
      AState.clearRemainder_of_short, AState.clearRemainder_of_long⟩

/-- Settles O21: each order looks for what the configuration supplies before it does anything else. -/
theorem argusOrdersWithoutConfiguration : Obligations.ArgusOrdersWithoutConfiguration := by
  intro s n x m
  simp only [List.forall_mem_cons, List.not_mem_nil, false_imp_iff, implies_true, and_true]
  refine ⟨fun hround => ?rounding, fun hdiv => ⟨?a24, ?a25, ?a26⟩, fun hio => ?input⟩
  case rounding => exact State.onArgus_eq_refused.2 (AState.multiplyRounded_of_not_supplied hround)
  case a24 => exact State.onArgus_eq_refused.2 (AState.divide_of_not_supplied hdiv)
  case a25 => exact State.onArgus_eq_refused.2 (AState.divideRounded_of_not_supplied hdiv)
  case a26 => exact State.onArgus_eq_refused.2 (AState.divideRoundedAlone_of_not_supplied hdiv)
  case input => and_intros <;> exact State.onArgus_eq_refused.2 (AState.selectInput_of_none hio ..)

end Sys2Proof.Machine
end

section
/-! PROOFS. Argus shifts and normalising (spec/47_argus_shift.md R341 to R347, R349): the shifted values as numbers, the least shift that
normalises, and the orders 50 to 55 by the value that they shift. -/

namespace Sys2Proof.Machine

/-! ### The shifted values as numbers -/

section
variable {w v k : Nat}

theorem shiftArith_natCast (w v k : Nat) : shiftArith w v (k : Int) = trunc w (sval w v * ((2 ^ k : Nat) : Int)) := by
  rw [shiftArith, if_pos (Int.natCast_nonneg k), Int.toNat_natCast]

theorem shiftArith_neg_natCast (w v k : Nat) : shiftArith w v (-(k : Int)) = trunc w (sval w v / ((2 ^ k : Nat) : Int)) := by
  cases k with
  | zero => simp [shiftArith]
  | succ k => rw [shiftArith, if_neg (by omega), neg_neg, Int.toNat_natCast]

theorem shiftLogical_natCast (w v k : Nat) : shiftLogical w v (k : Int) = v * 2 ^ k % 2 ^ w := by
  rw [shiftLogical, if_pos (Int.natCast_nonneg k), Int.toNat_natCast, ← Nat.cast_mul, trunc_natCast]

theorem shiftLogical_neg_natCast (hv : v < 2 ^ w) (k : Nat) : shiftLogical w v (-(k : Int)) = v / 2 ^ k := by
  cases k with
  | zero => simp [shiftLogical, trunc_of_lt hv]
  | succ k => rw [shiftLogical, if_neg (by omega), neg_neg, Int.toNat_natCast]

/-- Up, a loss is a signed result other than the true product. -/
theorem shiftLoses_natCast (w v k : Nat) :
    shiftLoses w v (k : Int) = true ↔ sval w (shiftArith w v (k : Int)) ≠ sval w v * ((2 ^ k : Nat) : Int) := by
  rw [shiftLoses, decide_eq_true (Int.natCast_nonneg k), Bool.true_and, decide_eq_true_iff, Int.toNat_natCast]

/-- Down, nothing is lost. -/
theorem shiftLoses_neg_natCast (w v : Nat) (hk : 1 ≤ k) : shiftLoses w v (-(k : Int)) = false := by
  rw [shiftLoses, decide_eq_false (by omega), Bool.false_and]

theorem fitsSigned_sval (hw : 1 ≤ w) (hv : v < 2 ^ w) : fitsSigned w (sval w v) = true :=
  decide_eq_true (sval_range hw hv)

/-- A quotient by a positive number fits where the dividend does. -/
theorem fitsSigned_ediv {t d : Int} (hd : 0 < d) (ht : fitsSigned w t = true) : fitsSigned w (t / d) = true := by
  obtain ⟨hlow, hhigh⟩ := of_decide_eq_true ht
  refine decide_eq_true ⟨(Int.le_ediv_iff_mul_le hd).2 ?_, (Int.ediv_lt_iff_lt_mul hd).2 ?_⟩ <;> nlinarith

/-- An arithmetic shift down is the floor of the division. -/
theorem sval_shiftArith_neg_natCast (hw : 1 ≤ w) (hv : v < 2 ^ w) (k : Nat) :
    sval w (shiftArith w v (-(k : Int))) = sval w v / ((2 ^ k : Nat) : Int) := by
  rw [shiftArith_neg_natCast]
  exact sval_trunc_of_fits hw (fitsSigned_ediv (by exact_mod_cast Nat.two_pow_pos k) (fitsSigned_sval hw hv))

/-- Shifted up by the width or more, no bit is left. -/
theorem shiftArith_of_width_le (v : Nat) (hk : w ≤ k) : shiftArith w v (k : Int) = 0 := by
  have hdvd : ((2 ^ w : Nat) : Int) ∣ ((2 ^ k : Nat) : Int) := Int.natCast_dvd_natCast.2 (pow_dvd_pow 2 hk)
  rw [shiftArith_natCast, trunc_congr (Int.modEq_zero_iff_dvd.2 (hdvd.mul_left _))]
  exact trunc_of_lt (Nat.two_pow_pos w)

theorem shiftLogical_of_width_le (v : Nat) (hk : w ≤ k) : shiftLogical w v (k : Int) = 0 := by
  rw [shiftLogical_natCast]
  exact Nat.mod_eq_zero_of_dvd ((pow_dvd_pow 2 hk).mul_left v)

theorem trunc_neg_one (w : Nat) : trunc w (-1) = 2 ^ w - 1 := by
  have hpos := Nat.two_pow_pos w
  rw [← trunc_add_two_pow, show (-1 : Int) + ((2 ^ w : Nat) : Int) = ((2 ^ w - 1 : Nat) : Int) by omega]
  exact trunc_of_lt (by omega)

/-- Shifted down by the width or more, every bit is the sign. -/
theorem shiftArith_neg_of_width_le (hw : 1 ≤ w) (hv : v < 2 ^ w) (hk : w ≤ k) :
    shiftArith w v (-(k : Int)) = if sval w v < 0 then 2 ^ w - 1 else 0 := by
  obtain ⟨hlow, hhigh⟩ := sval_range hw hv
  have hwk : 2 ^ (w - 1) ≤ 2 ^ k := Nat.pow_le_pow_right two_pos (by omega)
  rw [shiftArith_neg_natCast]
  split
  · next hneg => rw [Int.ediv_eq_neg_one_of_neg_of_le hneg (by omega), trunc_neg_one]
  · next hpos =>
    rw [Int.ediv_eq_zero_of_lt (by omega) (by omega)]
    exact trunc_of_lt (Nat.two_pow_pos w)

theorem shiftLogical_neg_of_width_le (hv : v < 2 ^ w) (hk : w ≤ k) : shiftLogical w v (-(k : Int)) = 0 := by
  rw [shiftLogical_neg_natCast hv]
  exact Nat.div_eq_of_lt (hv.trans_le (Nat.pow_le_pow_right two_pos hk))

theorem shiftArith_zero (hv : v < 2 ^ w) : shiftArith w v 0 = v := by
  simpa [trunc_sval hv] using shiftArith_natCast w v 0

end

/-! ### The least shift that normalises -/

section
variable {w v k : Nat}

theorem isNormalised_iff : isNormalised w v = true ↔ TopBitsDiffer w v := bne_iff_ne

/-- The top two bits agree exactly when one bit fewer holds the signed value: `v` lies in the first or the last quarter of the
words. -/
theorem topBitsDiffer_iff (hw : 2 ≤ w) (hv : v < 2 ^ w) : TopBitsDiffer w v ↔ ¬ fitsSigned (w - 1) (sval w v) = true := by
  obtain ⟨n, rfl⟩ : ∃ n, w = n + 2 := ⟨w - 2, by omega⟩
  have h1 : 2 ^ (n + 1) = 2 * 2 ^ n := by rw [pow_succ]; ring
  have h2 : 2 ^ (n + 2) = 4 * 2 ^ n := by rw [pow_add]; ring
  have hquarter : v / 2 ^ n < 4 := Nat.div_lt_of_lt_mul (by omega)
  have hsplit : 2 ^ n * (v / 2 ^ n) + v % 2 ^ n = v := Nat.div_add_mod v (2 ^ n)
  have hmod : v % 2 ^ n < 2 ^ n := Nat.mod_lt _ (Nat.two_pow_pos n)
  have hbit1 : v.testBit (n + 1) = (v / 2 ^ n).testBit 1 := by rw [Nat.testBit_div_two_pow, Nat.add_comm]
  have hbit0 : v.testBit n = (v / 2 ^ n).testBit 0 := by rw [Nat.testBit_div_two_pow, Nat.zero_add]
  simp only [TopBitsDiffer, fitsSigned_eq_true_iff, sval, Nat.add_sub_cancel, show n + 2 - 1 = n + 1 by omega, hbit1, hbit0,
    h1, h2]
  generalize 2 ^ n = q at *
  interval_cases v / q <;> simp [Nat.testBit] <;> split <;> omega

/-- While the top two bits agree, one more place up loses nothing. -/
theorem sval_shiftArith_of_not_topBitsDiffer (hw : 2 ≤ w) (hv : v < 2 ^ w)
    (h : ∀ j < k, ¬ TopBitsDiffer w (shiftArith w v (j : Int))) :
    sval w (shiftArith w v (k : Int)) = sval w v * ((2 ^ k : Nat) : Int) := by
  induction k with
  | zero => simp [shiftArith_zero hv]
  | succ k ih =>
    have hexact := ih fun j hj => h j (by omega)
    have hfits := h k (by omega)
    rw [topBitsDiffer_iff hw (shiftArith_lt ..), not_not, hexact, fitsSigned_eq_true_iff] at hfits
    have hhalf : 2 * 2 ^ (w - 1 - 1) = 2 ^ (w - 1) := mul_pow_sub_one (by omega) 2
    have hstep : sval w v * ((2 ^ (k + 1) : Nat) : Int) = 2 * (sval w v * ((2 ^ k : Nat) : Int)) := by
      push_cast
      ring
    rw [shiftArith_natCast]
    refine sval_trunc_of_fits (by omega) (fitsSigned_eq_true_iff.2 ?_)
    rw [hstep, ← hhalf]
    omega

/-- After w - 1 places no word but 0 could still lie in w - 1 bits. -/
theorem exists_topBitsDiffer (hw : 2 ≤ w) (h0 : v ≠ 0) (hv : v < 2 ^ w) :
    ∃ k < w, TopBitsDiffer w (shiftArith w v (k : Int)) := by
  by_contra hnone
  have hagree (j : Nat) (hj : j < w) : ¬ TopBitsDiffer w (shiftArith w v (j : Int)) := fun hd => hnone ⟨j, hj, hd⟩
  have hexact := sval_shiftArith_of_not_topBitsDiffer hw hv fun j (hj : j < w - 1) => hagree j (by omega)
  have hfits := hagree (w - 1) (by omega)
  rw [topBitsDiffer_iff hw (shiftArith_lt ..), not_not, hexact] at hfits
  obtain ⟨hlow, hhigh⟩ := of_decide_eq_true hfits
  have hhalf : ((2 ^ (w - 1) : Nat) : Int) = 2 * ((2 ^ (w - 1 - 1) : Nat) : Int) := by
    exact_mod_cast (mul_pow_sub_one (by omega) 2).symm
  have hpos : (0 : Int) < ((2 ^ (w - 1 - 1) : Nat) : Int) := by exact_mod_cast Nat.two_pow_pos _
  have hne : sval w v ≠ 0 := (sval_eq_zero_iff hv).not.2 h0
  rw [hhalf] at hlow hhigh
  rcases lt_or_gt_of_ne hne with hneg | hgt <;> nlinarith

/-- The count is the least shift that normalises, and is less than the width. -/
theorem normaliseCount_least (hw : 2 ≤ w) (h0 : v ≠ 0) (hv : v < 2 ^ w) :
    normaliseCount w v < w ∧ TopBitsDiffer w (shiftArith w v (normaliseCount w v : Int)) ∧
      ∀ j < normaliseCount w v, ¬ TopBitsDiffer w (shiftArith w v (j : Int)) := by
  obtain ⟨k, hk, hdiffer⟩ := exists_topBitsDiffer hw h0 hv
  obtain ⟨i, hfind⟩ := Option.isSome_iff_exists.1
    (List.find?_isSome (p := fun k : Nat => isNormalised w (shiftArith w v (k : Int))).2
      ⟨k, List.mem_range.2 hk, isNormalised_iff.2 hdiffer⟩)
  have hcount : normaliseCount w v = i := by rw [normaliseCount, hfind, Option.getD_some]
  obtain ⟨hi, hlt, hleast⟩ := List.find?_range_eq_some.1 hfind
  rw [hcount]
  exact ⟨List.mem_range.1 hlt, isNormalised_iff.1 hi, fun j hj hd => by
    simpa [isNormalised_iff.2 hd] using hleast j hj⟩

end

/-! ### The orders, by the value that they shift -/

theorem AState.advance_setx (c : Config) (x : BitVec 3) (v : Nat) (a : AState) :
    (a.setx c x v).advance = { a.setx c x v with pc := a.pc + 1 } := by
  rw [← AState.setx_pc c x v a]
  rfl

section
variable {c : Config} {a : AState} {n : Addr13} {x : BitVec 3} {m : BitVec 2}

theorem AState.shiftAccArith_eq :
    AState.shiftAccArith n x m c a =
      .next { a.setx c x (shiftArith (accWidth c x) (a.xval c x) (a.places c n m)) with
        ovr := a.ovr || shiftLoses (accWidth c x) (a.xval c x) (a.places c n m), pc := a.pc + 1 } := by
  rw [AState.shiftAccArith, AState.advance_noteOverflow, AState.setx_ovr, AState.setx_pc]

theorem AState.shiftAccLogical_eq :
    AState.shiftAccLogical n x m c a =
      .next { a.setx c x (shiftLogical (accWidth c x) (a.xval c x) (a.places c n m)) with pc := a.pc + 1 } := by
  rw [AState.shiftAccLogical, AState.advance_setx]

theorem doubleShiftForm_ne_none_of_ne (h4 : x ≠ 4#3) (h7 : x ≠ 7#3) : doubleShiftForm x ≠ none := by
  simp [doubleShiftForm, h4, h7]

theorem AState.normaliseP_of_zero (hx : ¬(x = 4#3 ∨ x = 5#3 ∨ x = 7#3)) (h0 : a.pval c = 0) :
    AState.normaliseP x c a = .refused .argusNormaliseOfZero := by
  rw [AState.normaliseP, if_neg hx, if_pos h0]

theorem AState.normaliseP_of_ne_zero (hx : ¬(x = 4#3 ∨ x = 5#3 ∨ x = 7#3)) (h0 : a.pval c ≠ 0) :
    AState.normaliseP x c a = .next { (a.setp c (normaliseValue (2 * c.aW) (a.pval c))).setx c x
      (normaliseCount (2 * c.aW) (a.pval c) % 2 ^ accWidth c x) with pc := a.pc + 1 } := by
  rw [AState.normaliseP, if_neg hx, if_neg h0, AState.advance_setx, AState.setp_pc]

/-- The accumulators that lie in (pq), by their numbers. -/
theorem inPQ_iff : x = 4#3 ∨ x = 5#3 ∨ x = 6#3 ∨ x = 7#3 ↔ 4 ≤ x.toNat := by
  revert x
  decide

theorem AState.normalisePQ_of_zero (hx : ¬ 4 ≤ x.toNat) (h0 : a.pqval c = 0) :
    AState.normalisePQ x c a = .refused .argusNormaliseOfZero := by
  rw [AState.normalisePQ, if_neg (inPQ_iff.not.2 hx), if_pos h0]

theorem AState.normalisePQ_of_ne_zero (hx : ¬ 4 ≤ x.toNat) (h0 : a.pqval c ≠ 0) :
    AState.normalisePQ x c a = .next { (a.setpq c (normaliseValue (4 * c.aW) (a.pqval c))).setx c x
      (normaliseCount (4 * c.aW) (a.pqval c) % 2 ^ c.aW) with pc := a.pc + 1 } := by
  rw [AState.normalisePQ, if_neg (inPQ_iff.not.2 hx), if_neg h0, AState.advance_setx, AState.setpq_pc]

end

/-! ### The obligations -/

/-- Settles O50: 50 and 51 by their next states, 52 and 53 by X = 4, X = 7 and the other X. -/
theorem argusShifts : Obligations.ArgusShifts := by
  intro s n x m k w xv p pq
  refine ⟨?a50, ?a51, ?a52P, ?a52PQ, ?a53P, ?a53PQ, fun h4 h7 => ⟨?a52Refused, ?a53Refused⟩⟩
  case a50 => exact State.onArgus_eq_next.2 ⟨_, AState.shiftAccArith_eq, rfl⟩
  case a51 => exact State.onArgus_eq_next.2 ⟨_, AState.shiftAccLogical_eq, rfl⟩
  case a52P | a52PQ | a53P | a53PQ => rfl
  case a52Refused =>
    exact State.onArgus_eq_refused.2 (AState.shiftDoubleArith_of_form (doubleShiftForm_ne_none_of_ne h4 h7))
  case a53Refused =>
    exact State.onArgus_eq_refused.2 (AState.shiftDoubleLogical_of_form (doubleShiftForm_ne_none_of_ne h4 h7))

/-- Settles O51: a shift up is a product reduced modulo 2^w, a shift down a quotient, which always fits. -/
theorem shiftedValues : Obligations.ShiftedValues := by
  intro w v k hw hv
  refine ⟨shiftArith_natCast w v k, shiftLoses_natCast w v k, fun hk => ⟨?upArith, ?upLogical⟩,
    fun hk => ⟨sval_shiftArith_neg_natCast hw hv k, shiftLoses_neg_natCast w v hk⟩, fun hk => ⟨?downArith, ?downLogical⟩,
    shiftLogical_natCast w v k, shiftLogical_neg_natCast hv k, shiftArith_zero hv⟩
  case upArith => exact shiftArith_of_width_le v hk
  case upLogical => exact shiftLogical_of_width_le v hk
  case downArith => exact shiftArith_neg_of_width_le hw hv hk
  case downLogical => exact shiftLogical_neg_of_width_le hv hk

/-- Settles O52: X is tested first, then the value for zero. -/
theorem argusNormalising : Obligations.ArgusNormalising := by
  intro s n x m p pq
  refine ⟨fun h4 h5 h7 h0 => ?a54, fun h4 h5 h7 h0 => ?a54Zero, fun hx => ?a54Overlap,
    fun hx h0 => ?a55, fun hx h0 => ?a55Zero, fun hx => ?a55Overlap⟩
  case a54 => exact State.onArgus_eq_next.2 ⟨_, AState.normaliseP_of_ne_zero (by simp [h4, h5, h7]) h0, rfl⟩
  case a54Zero => exact State.onArgus_eq_refused.2 (AState.normaliseP_of_zero (by simp [h4, h5, h7]) h0)
  case a54Overlap => exact State.onArgus_eq_refused.2 (if_pos hx)
  case a55 => exact State.onArgus_eq_next.2 ⟨_, AState.normalisePQ_of_ne_zero (by omega) h0, rfl⟩
  case a55Zero => exact State.onArgus_eq_refused.2 (AState.normalisePQ_of_zero (by omega) h0)
  case a55Overlap => exact State.onArgus_eq_refused.2 (if_pos (inPQ_iff.2 hx))

/-- Settles O53: the count is the least shift that normalises, so every place before it lost nothing. -/
theorem normalisedValues : Obligations.NormalisedValues := by
  refine ⟨fun w v hw h0 hv => ?value, fun s n x m hx => ⟨fun h0 => ?a54Zero, fun h0 => ?a55Zero⟩⟩
  case value =>
    obtain ⟨hlt, hdiffer, hleast⟩ := normaliseCount_least hw h0 hv
    have hexact := sval_shiftArith_of_not_topBitsDiffer hw hv hleast
    exact ⟨by omega, hdiffer, hleast, rfl, hexact, Bool.eq_false_iff.2 fun hlost => (shiftLoses_natCast ..).1 hlost hexact⟩
  case a54Zero =>
    have hnot : ¬(x = 4#3 ∨ x = 5#3 ∨ x = 7#3) := fun h => by rcases h with rfl | rfl | rfl <;> simp at hx
    exact State.onArgus_eq_refused.2 (AState.normaliseP_of_zero hnot h0)
  case a55Zero => exact State.onArgus_eq_refused.2 (AState.normalisePQ_of_zero (by omega) h0)

end Sys2Proof.Machine
end

section
/-! PROOFS. Argus jumps (spec/48_argus_jump.md R361 to R373): each shape as a plain next state, the condition of its order as a
proposition, and the orders 60 to 67 and 70 to 74 by their shapes. -/

namespace Sys2Proof.Machine

/-! ### The shapes, as plain next states -/

/-- A subtraction of at most twice the modulus, as one of natural numbers (R367: for a word of one bit the 2 is the modulus itself). -/
theorem subW_eq_mod_of_le {w b : Nat} (a : Nat) (hb : b ≤ 2 ^ w * 2) : subW w a b = (a + (2 ^ w * 2 - b)) % 2 ^ w := by
  have hcast : (a : Int) - b + ((2 ^ w : Nat) : Int) + ((2 ^ w : Nat) : Int) = ((a + (2 ^ w * 2 - b) : Nat) : Int) := by omega
  rw [subW, ← trunc_add_two_pow, ← trunc_add_two_pow, hcast, trunc_natCast]

theorem accWidth_pos {c : Config} (hw : 1 ≤ c.aW) (x : BitVec 3) : 1 ≤ accWidth c x := by
  unfold accWidth
  split <;> omega

section
variable {c : Config} {a : AState} {n : Addr13} {x : BitVec 3} {m : BitVec 2} {P : Prop} [Decidable P]

/-- A conditional jump writes pc alone. -/
theorem AState.jumpIf_of_iff {cond : Bool} (h : cond = true ↔ P) (target : Addr13) (a : AState) :
    a.jumpIf cond target = { a with pc := if P then target else a.pc + 1 } := by
  by_cases hP : P
  · rw [AState.jumpIf, if_pos (h.2 hP), if_pos hP]
    rfl
  · rw [AState.jumpIf, if_neg (mt h.1 hP), if_neg hP]
    rfl

/-- 60 to 63, for a condition that says `P` of x. -/
theorem AState.jumpOnAcc_of_iff {cond : Nat → Nat → Bool} (h : cond (accWidth c x) (a.xval c x) = true ↔ P) :
    AState.jumpOnAcc cond n x m c a = .next { a with pc := if P then a.effectiveN c n m else a.pc + 1 } := by
  rw [AState.jumpOnAcc, AState.jumpIf_of_iff h]

/-- 64 and 65 clear A.OVR on either branch. -/
theorem AState.jumpOnOverflow_eq (wanted : Bool) :
    AState.jumpOnOverflow wanted n m c a =
      .next { a with ovr := false, pc := if a.ovr = wanted then a.effectiveN c n m else a.pc + 1 } := by
  rw [AState.jumpOnOverflow, AState.jumpIf_of_iff beq_iff_eq]

/-- 73 and 74 record the busy state that they test. -/
theorem AState.jumpOnTypewriter_eq (wanted : Bool) :
    AState.jumpOnTypewriter wanted n m c a =
      .next { a with pc := if a.typewriterBusy = wanted then a.effectiveN c n m else a.pc + 1
                     history := a.history ++ [.typewriter a.typewriterBusy] } := by
  rw [AState.jumpOnTypewriter, AState.jumpIf_of_iff beq_iff_eq]
  rfl

theorem AState.countModifier_of_none (h : ModifierMap.register c.aModMap m = none) (k : Addr13) :
    a.countModifier c m k = a := by
  rw [AState.countModifier, h]

theorem AState.countModifier_of_some {i : Fin 3} (h : ModifierMap.register c.aModMap m = some i) (k : Addr13) :
    a.countModifier c m k = { a with mod := a.mod.set i (a.mod[i] + k) } := by
  rw [AState.countModifier, h]

/-- 66 and 67 where M identifies no modifier: x is counted alone. -/
theorem AState.countingJump_of_none (h : ModifierMap.register c.aModMap m = none) (k : Nat) :
    AState.countingJump k n x m c a = .next { a.setx c x (subW (accWidth c x) (a.xval c x) k) with
      mod := a.mod
      pc := if subW (accWidth c x) (a.xval c x) k ≠ 0 then n else a.pc + 1 } := by
  rw [AState.countingJump, AState.countModifier_of_none h, AState.jumpIf_of_iff decide_eq_true_iff, AState.setx_pc,
    ← AState.setx_mod c x (subW (accWidth c x) (a.xval c x) k) a]

/-- 66 and 67 where M identifies a modifier: x and the modifier are counted. -/
theorem AState.countingJump_of_some {i : Fin 3} (h : ModifierMap.register c.aModMap m = some i) (k : Nat) :
    AState.countingJump k n x m c a = .next { a.setx c x (subW (accWidth c x) (a.xval c x) k) with
      mod := a.mod.set i (a.mod[i] + BitVec.ofNat 13 k)
      pc := if subW (accWidth c x) (a.xval c x) k ≠ 0 then n else a.pc + 1 } := by
  rw [AState.countingJump, AState.countModifier_of_some h, AState.jumpIf_of_iff decide_eq_true_iff, AState.setx_pc,
    AState.setx_mod]

end

/-! ### The link orders, from any state -/

/-- 70 stores its own address, not the next. -/
theorem exec_a70 (s : State) (n : Addr13) (x : BitVec 3) (m : BitVec 2) :
    exec (.a70 n x m) s = .next (s.withA { s.a with link := s.a.pc, pc := s.a.effectiveN s.cfg n m }) := rfl

/-- 71 goes to the order after the one whose address the link holds. -/
theorem exec_a71 (s : State) (n : Addr13) (x : BitVec 3) (m : BitVec 2) :
    exec (.a71 n x m) s = .next (s.withA { s.a with pc := s.a.link + 1 }) := rfl

/-- 72 goes to the order whose address the link holds. -/
theorem exec_a72 (s : State) (n : Addr13) (x : BitVec 3) (m : BitVec 2) :
    exec (.a72 n x m) s = .next (s.withA { s.a with pc := s.a.link }) := rfl

/-! ### The obligations -/

/-- Settles O54: each of the four orders is `jumpOnAcc` with its condition. -/
theorem argusAccumulatorJumps : Obligations.ArgusAccumulatorJumps := by
  intro s n x m ne w xv
  have hjump (cond : Nat → Nat → Bool) {P : Prop} [Decidable P] (h : cond w xv = true ↔ P) :
      s.onArgus (AState.jumpOnAcc cond n x m) = .next (s.withA { s.a with pc := if P then ne else s.a.pc + 1 }) :=
    State.onArgus_eq_next.2 ⟨_, AState.jumpOnAcc_of_iff h, rfl⟩
  have hnotNegative : (!isNegative w xv) = true ↔ 0 ≤ sval w xv := by simp [isNegative]
  exact ⟨hjump (fun _ v => decide (v = 0)) decide_eq_true_iff, hjump (fun _ v => decide (v ≠ 0)) decide_eq_true_iff,
    hjump (fun w v => !isNegative w v) hnotNegative, hjump isNegative decide_eq_true_iff⟩

/-- Settles O55: 64 is `jumpOnOverflow` for OVR clear, 65 for OVR set. -/
theorem argusOverflowJumps : Obligations.ArgusOverflowJumps := fun _ _ _ _ =>
  ⟨State.onArgus_eq_next.2 ⟨_, AState.jumpOnOverflow_eq false, rfl⟩,
    State.onArgus_eq_next.2 ⟨_, AState.jumpOnOverflow_eq true, rfl⟩⟩

/-- Settles O56: 66 and 67 are `countingJump` by 2 and by 1; the modifier is counted where M identifies one. -/
theorem argusCountingJumps : Obligations.ArgusCountingJumps := by
  intro s n x m o ho r
  refine ⟨fun hw => ?_, rfl, rfl, rfl, rfl⟩
  have hexec : exec (o.1 n x m) s = s.onArgus (AState.countingJump o.2 n x m) ∧ o.2 ≤ 2 := by
    simp only [List.mem_cons, List.not_mem_nil, or_false] at ho
    rcases ho with rfl | rfl
    · exact ⟨rfl, le_rfl⟩
    · exact ⟨rfl, one_le_two⟩
  obtain ⟨hexec, hk⟩ := hexec
  have htwo : 2 ≤ 2 ^ accWidth s.cfg x := Nat.le_self_pow (Nat.one_le_iff_ne_zero.1 (accWidth_pos hw x)) 2
  have hr : subW (accWidth s.cfg x) (s.a.xval s.cfg x) o.2 = r := subW_eq_mod_of_le _ (by omega)
  rw [hexec, ← hr]
  cases hreg : ModifierMap.register s.cfg.aModMap m with
  | none => exact State.onArgus_eq_next.2 ⟨_, AState.countingJump_of_none hreg o.2, rfl⟩
  | some i => exact State.onArgus_eq_next.2 ⟨_, AState.countingJump_of_some hreg o.2, rfl⟩

/-- Settles O58: 73 is `jumpOnTypewriter` for the drawn state busy, 74 for it free. -/
theorem argusTypewriterJumps : Obligations.ArgusTypewriterJumps := fun _ _ _ _ =>
  ⟨State.onArgus_eq_next.2 ⟨_, AState.jumpOnTypewriter_eq true, rfl⟩,
    State.onArgus_eq_next.2 ⟨_, AState.jumpOnTypewriter_eq false, rfl⟩⟩

/-- Settles O57: the two returns are 71 and 72 in the states that a 70 and an interruption entry leave. -/
theorem argusLinkJumps : Obligations.ArgusLinkJumps := fun s n n' _ x x' m m' =>
  ⟨exec_a70 s n x m, exec_a71 s n x m, exec_a72 s n x m, exec_a71 _ n' x' m', exec_a72 _ n' x' m'⟩

end Sys2Proof.Machine
end

section
/-! PROOFS. Outer mode (spec/60_exceptions.md R404, R406): every Poseidon order is refused in it, so no step returns from it. The Argus
interruption (R402): the step where A_INT is supplied, by its predicate and by the draw. -/

namespace Sys2Proof.Machine

/-! ### Outer mode -/

theorem PState.obey_of_outer {c : Config} {v : PVariant} {collate : Bool} {op : Option PFunction} {fa fb fc : Field5} {p : PState}
    (hm : p.mode = .outer) : PState.obey v collate op fa fb fc c p = .refused .poseidonOuterMode := if_pos hm

theorem poseidonRefused_of_outer {s : State} (hm : s.p.mode = .outer) (e : Refusal) :
    poseidonRefused e s = .refused .poseidonOuterMode := if_pos hm

/-- Listed orders test the mode before anything else, and so do the orders without a meaning. -/
theorem exec_of_outer {i : Instr} {s : State} (hi : i.machine = .poseidon) (hm : s.p.mode = .outer) :
    exec i s = .refused .poseidonOuterMode := by
  cases i
  case p000 | p001 | p002 | p003 | p004 | p005 | p006 | p007 | p010 | p011 | p012 | p013 | p014 | p015 | p016 | p017
    | p020 | p021 | p022 | p023 | p024 | p025 | p026 | p027 | p030 | p032 | p034 | p036
    | p040 | p041 | p042 | p043 | p044 | p045 | p046 | p047 | p050 | p051 | p052 | p053 | p054 | p055 | p056 | p057
    | p060 | p061 | p062 | p063 | p064 | p065 | p066 | p067 | p070 | p071 | p072 | p073 | p074 | p075 | p076 | p077 =>
    exact State.onPoseidon_eq_refused.2 (PState.obey_of_outer hm)
  case p031 | p033 | p035 | p037 | p1xx | p2xx | p3xx | p4xx | p5xx | p6xx | p7xx => exact poseidonRefused_of_outer hm _
  all_goals nomatch hi

/-- A Poseidon order has no next state in Outer mode, and an order of another machine leaves the Poseidon alone. -/
theorem exec_keeps_outer {i : Instr} {s t : State} (h : exec i s = .next t) (hm : s.p.mode = .outer) : t.p.mode = .outer := by
  by_cases hi : i.machine = .poseidon
  · rw [exec_of_outer hi hm] at h
    nomatch h
  · obtain ⟨-, -, hp, -⟩ := machinesHaveDisjointState i s t h
    rw [hp hi, hm]

/-- A step keeps Outer mode, whichever machine runs: an interruption entry and its record are the Argus's own. -/
theorem step_keeps_outer {s t : State} (h : step s = .next t) : s.p.mode = .outer → t.p.mode = .outer :=
  step_relates (R := fun s t => s.p.mode = .outer → t.p.mode = .outer) (fun h1 h2 => h2 ∘ h1) exec_keeps_outer
    (fun _ _ => id) (fun _ _ => id) h

/-- A Poseidon that fetches a word in Outer mode stops: whatever the word, it decodes to a Poseidon order. -/
theorem step_of_outer {s : State} {w : Order} (hr : s.running = .poseidon) (hm : s.p.mode = .outer)
    (hw : s.fetch .poseidon = .next w) : step s = .refused .poseidonOuterMode := by
  obtain ⟨hmachine, -⟩ := encodeOfDecodeIsTheWord .poseidon w
  rw [step_of_poseidon hr, State.obeyNext_of_next hw, exec_of_outer hmachine hm]

/-- Settles O16: all but the third clause rest on the refusal of every Poseidon order; the third is `PState.Kept.mode`, which names
the orders that change the mode. -/
theorem outerModeIsRefusedForGood : Obligations.OuterModeIsRefusedForGood :=
  ⟨fun _ _ => exec_of_outer, fun _ _ => step_of_outer,
    fun _ _ _ h h0 h1 => (exec_kept h).p.mode (by simp [h0, h1]), fun _ _ => step_keeps_outer⟩

/-! ### The Argus interruption -/

theorem AState.interruptionEntry_of_some {c : Config} {entry : Addr13} (hi : c.aInt = some entry) (a : AState) :
    a.interruptionEntry c = if Config.interruptEnabled a then some entry else none := by
  rw [AState.interruptionEntry, hi]

theorem step_of_argus_of_no_entry {s : State} (hr : s.running = .argus) (hh : s.a.halted = false)
    (he : s.a.interruptionEntry s.cfg = none) : step s = s.obeyNext .argus := by
  simp [step, State.stepRunning, State.stepArgus, hr, hh, he]

theorem step_of_argus_of_entry {s : State} {entry : Addr13} (hr : s.running = .argus) (hh : s.a.halted = false)
    (he : s.a.interruptionEntry s.cfg = some entry) :
    step s =
      if s.a.interruptionTaken then .next (s.withA ((s.a.record [.interruption true]).takeInterruption entry))
      else (s.withA (s.a.record [.interruption false])).obeyNext .argus := by
  cases htaken : s.a.interruptionTaken <;>
    simp [step, State.stepRunning, State.stepArgus, hr, hh, he, htaken, State.withA]

/-- Settles O7: the predicate decides whether there is an entry to choose, and the draw chooses. -/
theorem interruptionBeforeAnOrder : Obligations.InterruptionBeforeAnOrder := by
  intro s entry hr hh hi
  have hentry := AState.interruptionEntry_of_some hi s.a
  by_cases hen : Config.interruptEnabled s.a = true
  · rw [if_pos hen] at hentry ⊢
    exact step_of_argus_of_entry hr hh hentry
  · rw [if_neg hen] at hentry ⊢
    exact step_of_argus_of_no_entry hr hh hentry

end Sys2Proof.Machine
end

section
/-! PROOFS. The state at reset (spec/70_reset_and_hazards.md R440, R441): in every legal configuration (spec/00_scope.md R7) each machine
starts well-formed, whatever values the OPEN parameters have. -/

namespace Sys2Proof.Machine

theorem Config.standard_wf : Config.standard.wf := by decide

/-- The empty program store has the form. -/
theorem Program.wf_nil (size : Nat) : Program.wf size [] := by simp [Program.wf]

/-- The Poseidon needs nothing of the configuration: zeros fit every width, and there are P_NQ Q stats. -/
theorem PState.reset_wf (c : Config) : (PState.reset c).wf c := by
  have hr : ∀ k : Fin 32, (PState.reset c).r[k] < 2 ^ c.pW := by simp [PState.reset]
  exact ⟨hr, List.length_replicate, Program.wf_nil _, Memory.wf_nil _ _⟩

/-- The Hermes starts at H_ENTRY, which a legal configuration keeps below 2^H_AW. -/
theorem HState.reset_wf {c : Config} (hc : c.wf) : (HState.reset c).wf c := by
  obtain ⟨-, -, -, -, -, -, -, -, hentry, -⟩ := hc
  exact ⟨Memory.wf_nil _ _, Nat.two_pow_pos _, hentry, Program.wf_nil _⟩

/-- The Argus needs nothing of the configuration: zeros fit every width. -/
theorem AState.reset_wf (c : Config) : (AState.reset c).wf c := by
  have hzero : 0 < 2 ^ c.aW := Nat.two_pow_pos _
  have hx : ∀ k : Fin 6, (AState.reset c).x[k] < 2 ^ c.aW := by simp [AState.reset]
  exact ⟨hx, hzero, hzero, Memory.wf_nil _ _, hzero, hzero, Program.wf_nil _⟩

theorem State.reset_inv : State.reset.Inv :=
  ⟨Config.standard_wf, PState.reset_wf _, HState.reset_wf Config.standard_wf, AState.reset_wf _⟩

/-- Settles O8: the invariant holds machine by machine, and the other clauses are the fields that reset gives. -/
theorem resetIsALegalStart : Obligations.ResetIsALegalStart :=
  ⟨State.reset_inv, rfl, rfl, rfl, rfl, rfl, rfl, rfl, rfl, rfl⟩

end Sys2Proof.Machine
end
